-- ==== Sys2Proof/Word.lean ====
section
/-! DEFINITION. The one width of the block: every datum is a byte (00_scope.md R8 "data width", R11; 20_memory.md R53). -/

namespace Sys2Proof

/-- A byte: an 8-bit unsigned value; bit 0 is the least significant (R11). -/
abbrev Byte := BitVec 8

end Sys2Proof
end

