-- ==== Sys2Proof/Config.lean ====
section
/-! DEFINITION. What an implementation fixes (00_scope.md R8) and the free values: the parameters as data, the open
constants that stand for the real block's parameters, and the free choice of the next operation (R5, R237). -/

namespace Sys2Proof

/-- The operations of the block (00_scope.md R4, script notation 30_encoding.md R79). Each is one atomic step of one agent (R5). -/
inductive Op where
  /-- The inbound link delivers the byte `b` (R92). -/
  | rx (b : Byte)
  /-- The receive handler processes the oldest received byte (R111). -/
  | translate
  /-- The consumer's atomic read and reset of the buffer (R163). -/
  | take
  /-- The consumer's atomic read without draining (R164). -/
  | peek
  /-- The outbound link sends the pending byte (R97). -/
  | txDone
  /-- Power-up, or power loss followed by power-up (R260). -/
  | reset
deriving DecidableEq, Repr, Inhabited

/-- `IN b`, the one pseudo-operation of the script notation: `RX b` immediately followed by `TRANSLATE` (R79). -/
def Op.inByte (b : Byte) : List Op := [.rx b, .translate]

/-- The parameters of 00_scope.md R8 that the spec does not fix. No operation writes them. -/
structure Params where
  /-- `CAP`, the capacity of the OutputBuffer in bytes. -/
  cap : Nat
  /-- `RX_DEPTH`, how many received bytes the link holds. -/
  rxDepth : Nat
  /-- `OVF_CNT_W`, the width of the overflow counter in bits; 0 means absent. -/
  ovfCntW : Nat
  /-- `BAUD`, the bit rate; no rule reads it. -/
  baud : Nat
  /-- `CONSUMER_CARRY`, whether a consumer carries a pending marker from one `TAKE`n list into the next (R214). -/
  consumerCarry : Bool
deriving DecidableEq, Repr

namespace Config

/-- `CAP` less one: OPEN (R8, decision D2). Assumption 2. -/
opaque capLessOne : Nat

/-- `RX_DEPTH` less one: OPEN (R8, decision D4). Assumption 2. -/
opaque rxDepthLessOne : Nat

/-- Selects `OVF_CNT_W` (R8: 0 by default, any value 1 to 32 admitted; decision D11). Assumption 2. -/
opaque ovfWidthChoice : Nat

/-- `BAUD`: OPEN, read by no rule (R8, decision D13). Assumption 2. -/
opaque baud : Nat

/-- `CONSUMER_CARRY`: OPEN (R8, R214, decision D15). Assumption 2. -/
opaque consumerCarry : Bool

/-- The free choice of the next operation, used when nothing is chosen yet: any operation, with any received byte
(R5, R237, decision D9). Assumption 3. -/
opaque schedule : Nat → Op

/-- `CAP >= 1` (R8); every value from 1 on is one of these. -/
def cap : Nat := capLessOne + 1

/-- `RX_DEPTH >= 1` (R8). -/
def rxDepth : Nat := rxDepthLessOne + 1

/-- `OVF_CNT_W`, from 0 to 32 (R8). -/
def ovfCntW : Nat := ovfWidthChoice % 33

/-- The real block's parameters, whatever they are. -/
def params : Params :=
  { cap := cap, rxDepth := rxDepth, ovfCntW := ovfCntW, baud := baud, consumerCarry := consumerCarry }

end Config

end Sys2Proof
end

