-- ==== Sys2Proof/Syntax.lean ====
section
/-! DEFINITION. The block's instructions: one constructor for each row of spec/opcode_table.json, that is one for each
received byte value (00_scope.md R2; 30_encoding.md R70, R72, R80). A row has no operand fields (R70). -/

namespace Sys2Proof

/-- One received byte, named by its row: `rx<byte><class>` is the row `RX_<byte>_<CLASS>`. -/
inductive Instr where
  | rx00CtrlLow
  | rx01CtrlRange
  | rx02CtrlRange
  | rx03CtrlRange
  | rx04CtrlRange
  | rx05CtrlRange
  | rx06CtrlRange
  | rx07CtrlRange
  | rx08Exc
  | rx09Exc
  | rx0ACtrlRange
  | rx0BCtrlRange
  | rx0CCtrlRange
  | rx0DExc
  | rx0ECtrlRange
  | rx0FCtrlRange
  | rx10CtrlRange
  | rx11CtrlRange
  | rx12CtrlRange
  | rx13CtrlRange
  | rx14CtrlRange
  | rx15CtrlRange
  | rx16CtrlRange
  | rx17CtrlRange
  | rx18CtrlRange
  | rx19CtrlRange
  | rx1ACtrlRange
  | rx1BExc
  | rx1CCtrlLow
  | rx1DCtrlLow
  | rx1ECtrlLow
  | rx1FCtrlLow
  | rx20Pass
  | rx21ShiftTab
  | rx22ShiftTab
  | rx23ShiftTab
  | rx24ShiftTab
  | rx25ShiftTab
  | rx26ShiftTab
  | rx27Pass
  | rx28ShiftTab
  | rx29ShiftTab
  | rx2AShiftTab
  | rx2BShiftTab
  | rx2CPass
  | rx2DPass
  | rx2EPass
  | rx2FPass
  | rx30Pass
  | rx31Pass
  | rx32Pass
  | rx33Pass
  | rx34Pass
  | rx35Pass
  | rx36Pass
  | rx37Pass
  | rx38Pass
  | rx39Pass
  | rx3AShiftTab
  | rx3BPass
  | rx3CShiftTab
  | rx3DPass
  | rx3EShiftTab
  | rx3FShiftTab
  | rx40ShiftTab
  | rx41ShiftAlpha
  | rx42ShiftAlpha
  | rx43ShiftAlpha
  | rx44ShiftAlpha
  | rx45ShiftAlpha
  | rx46ShiftAlpha
  | rx47ShiftAlpha
  | rx48ShiftAlpha
  | rx49ShiftAlpha
  | rx4AShiftAlpha
  | rx4BShiftAlpha
  | rx4CShiftAlpha
  | rx4DShiftAlpha
  | rx4EShiftAlpha
  | rx4FShiftAlpha
  | rx50ShiftAlpha
  | rx51ShiftAlpha
  | rx52ShiftAlpha
  | rx53ShiftAlpha
  | rx54ShiftAlpha
  | rx55ShiftAlpha
  | rx56ShiftAlpha
  | rx57ShiftAlpha
  | rx58ShiftAlpha
  | rx59ShiftAlpha
  | rx5AShiftAlpha
  | rx5BPass
  | rx5CPass
  | rx5DPass
  | rx5EShiftTab
  | rx5FShiftTab
  | rx60Pass
  | rx61Pass
  | rx62Pass
  | rx63Pass
  | rx64Pass
  | rx65Pass
  | rx66Pass
  | rx67Pass
  | rx68Pass
  | rx69Pass
  | rx6APass
  | rx6BPass
  | rx6CPass
  | rx6DPass
  | rx6EPass
  | rx6FPass
  | rx70Pass
  | rx71Pass
  | rx72Pass
  | rx73Pass
  | rx74Pass
  | rx75Pass
  | rx76Pass
  | rx77Pass
  | rx78Pass
  | rx79Pass
  | rx7APass
  | rx7BShiftTab
  | rx7CShiftTab
  | rx7DShiftTab
  | rx7EShiftTab
  | rx7FPass
  | rx80Pass
  | rx81Pass
  | rx82Pass
  | rx83Pass
  | rx84Pass
  | rx85Pass
  | rx86Pass
  | rx87Pass
  | rx88Pass
  | rx89Pass
  | rx8APass
  | rx8BPass
  | rx8CPass
  | rx8DPass
  | rx8EPass
  | rx8FPass
  | rx90Pass
  | rx91Pass
  | rx92Pass
  | rx93Pass
  | rx94Pass
  | rx95Pass
  | rx96Pass
  | rx97Pass
  | rx98Pass
  | rx99Pass
  | rx9APass
  | rx9BPass
  | rx9CPass
  | rx9DPass
  | rx9EPass
  | rx9FPass
  | rxA0Pass
  | rxA1Pass
  | rxA2Pass
  | rxA3Pass
  | rxA4Pass
  | rxA5Pass
  | rxA6Pass
  | rxA7Pass
  | rxA8Pass
  | rxA9Pass
  | rxAAPass
  | rxABPass
  | rxACPass
  | rxADPass
  | rxAEPass
  | rxAFPass
  | rxB0Pass
  | rxB1Pass
  | rxB2Pass
  | rxB3Pass
  | rxB4Pass
  | rxB5Pass
  | rxB6Pass
  | rxB7Pass
  | rxB8Pass
  | rxB9Pass
  | rxBAPass
  | rxBBPass
  | rxBCPass
  | rxBDPass
  | rxBEPass
  | rxBFPass
  | rxC0Pass
  | rxC1Pass
  | rxC2Pass
  | rxC3Pass
  | rxC4Pass
  | rxC5Pass
  | rxC6Pass
  | rxC7Pass
  | rxC8Pass
  | rxC9Pass
  | rxCAPass
  | rxCBPass
  | rxCCPass
  | rxCDPass
  | rxCEPass
  | rxCFPass
  | rxD0Pass
  | rxD1Pass
  | rxD2Pass
  | rxD3Pass
  | rxD4Pass
  | rxD5Pass
  | rxD6Pass
  | rxD7Pass
  | rxD8Pass
  | rxD9Pass
  | rxDAPass
  | rxDBPass
  | rxDCPass
  | rxDDPass
  | rxDEPass
  | rxDFPass
  | rxE0Pass
  | rxE1Pass
  | rxE2Pass
  | rxE3Pass
  | rxE4Pass
  | rxE5Pass
  | rxE6Pass
  | rxE7Pass
  | rxE8Pass
  | rxE9Pass
  | rxEAPass
  | rxEBPass
  | rxECPass
  | rxEDPass
  | rxEEPass
  | rxEFPass
  | rxF0Pass
  | rxF1Pass
  | rxF2Pass
  | rxF3Pass
  | rxF4Pass
  | rxF5Pass
  | rxF6Pass
  | rxF7Pass
  | rxF8Pass
  | rxF9Pass
  | rxFAPass
  | rxFBPass
  | rxFCPass
  | rxFDPass
  | rxFEPass
  | rxFFPass
deriving DecidableEq, Repr

end Sys2Proof
end

