-- ==== Sys2Proof/WellFormed.lean ====
section
/-! DEFINITION. Which terms are well formed. An instruction has no operand (30_encoding.md R70) and no byte value is
illegal or reserved (R74), so every `Instr` is well formed; the checks that can fail are those on the parameters of
00_scope.md R8. -/

namespace Sys2Proof

/-- The six classes of 30_encoding.md R72. -/
inductive ScanClass where
  /-- Class 1 `EXC`, exception passthrough (R112). -/
  | exc
  /-- Class 2 `CTRL_LOW`, low control-offset set (R113). -/
  | ctrlLow
  /-- Class 3 `SHIFT_TAB`, explicit shift-offset table (R114). -/
  | shiftTab
  /-- Class 4 `CTRL_RANGE`, low control range (R136). -/
  | ctrlRange
  /-- Class 5 `SHIFT_ALPHA`, shifted letters (R137). -/
  | shiftAlpha
  /-- Class 6 `PASS`, default (R138). -/
  | pass
deriving DecidableEq, Repr

/-- Every instruction is well formed: a row has no field an operand could violate (R70), and none is illegal (R74). -/
def Instr.wellFormed (_ : Instr) : Bool := true

/-- The ranges R8 gives the parameters: `CAP >= 1`, `RX_DEPTH >= 1`, `OVF_CNT_W` from 0 to 32. `BAUD` and
`CONSUMER_CARRY` may have any value. -/
def Params.wellFormed (p : Params) : Bool :=
  decide (1 ≤ p.cap) && decide (1 ≤ p.rxDepth) && decide (p.ovfCntW ≤ 32)

end Sys2Proof
end

