-- ==== Sys2Proof/Decode.lean ====
section
/-! DEFINITION. From bytes to instructions and back. The unit decoded is one received byte, all 8 bits of which select
the row (30_encoding.md R70); no byte is rejected (R74). The decoder reads the table of R80 by position; the encoder is
written from the `encoding` column of spec/opcode_table.json. -/

namespace Sys2Proof

/-- Why nothing was decoded. -/
inductive DecodeError where
  /-- There is no byte to decode. No byte value is ever rejected (R74). -/
  | noByte
deriving DecidableEq, Repr

/-- The rows of R80 for bytes `0x00` to `0x0F`. -/
def tableRow0 : List Instr :=
  [
    .rx00CtrlLow, .rx01CtrlRange, .rx02CtrlRange, .rx03CtrlRange,
    .rx04CtrlRange, .rx05CtrlRange, .rx06CtrlRange, .rx07CtrlRange,
    .rx08Exc, .rx09Exc, .rx0ACtrlRange, .rx0BCtrlRange,
    .rx0CCtrlRange, .rx0DExc, .rx0ECtrlRange, .rx0FCtrlRange
  ]

/-- The rows of R80 for bytes `0x10` to `0x1F`. -/
def tableRow1 : List Instr :=
  [
    .rx10CtrlRange, .rx11CtrlRange, .rx12CtrlRange, .rx13CtrlRange,
    .rx14CtrlRange, .rx15CtrlRange, .rx16CtrlRange, .rx17CtrlRange,
    .rx18CtrlRange, .rx19CtrlRange, .rx1ACtrlRange, .rx1BExc,
    .rx1CCtrlLow, .rx1DCtrlLow, .rx1ECtrlLow, .rx1FCtrlLow
  ]

/-- The rows of R80 for bytes `0x20` to `0x2F`. -/
def tableRow2 : List Instr :=
  [
    .rx20Pass, .rx21ShiftTab, .rx22ShiftTab, .rx23ShiftTab,
    .rx24ShiftTab, .rx25ShiftTab, .rx26ShiftTab, .rx27Pass,
    .rx28ShiftTab, .rx29ShiftTab, .rx2AShiftTab, .rx2BShiftTab,
    .rx2CPass, .rx2DPass, .rx2EPass, .rx2FPass
  ]

/-- The rows of R80 for bytes `0x30` to `0x3F`. -/
def tableRow3 : List Instr :=
  [
    .rx30Pass, .rx31Pass, .rx32Pass, .rx33Pass,
    .rx34Pass, .rx35Pass, .rx36Pass, .rx37Pass,
    .rx38Pass, .rx39Pass, .rx3AShiftTab, .rx3BPass,
    .rx3CShiftTab, .rx3DPass, .rx3EShiftTab, .rx3FShiftTab
  ]

/-- The rows of R80 for bytes `0x40` to `0x4F`. -/
def tableRow4 : List Instr :=
  [
    .rx40ShiftTab, .rx41ShiftAlpha, .rx42ShiftAlpha, .rx43ShiftAlpha,
    .rx44ShiftAlpha, .rx45ShiftAlpha, .rx46ShiftAlpha, .rx47ShiftAlpha,
    .rx48ShiftAlpha, .rx49ShiftAlpha, .rx4AShiftAlpha, .rx4BShiftAlpha,
    .rx4CShiftAlpha, .rx4DShiftAlpha, .rx4EShiftAlpha, .rx4FShiftAlpha
  ]

/-- The rows of R80 for bytes `0x50` to `0x5F`. -/
def tableRow5 : List Instr :=
  [
    .rx50ShiftAlpha, .rx51ShiftAlpha, .rx52ShiftAlpha, .rx53ShiftAlpha,
    .rx54ShiftAlpha, .rx55ShiftAlpha, .rx56ShiftAlpha, .rx57ShiftAlpha,
    .rx58ShiftAlpha, .rx59ShiftAlpha, .rx5AShiftAlpha, .rx5BPass,
    .rx5CPass, .rx5DPass, .rx5EShiftTab, .rx5FShiftTab
  ]

/-- The rows of R80 for bytes `0x60` to `0x6F`. -/
def tableRow6 : List Instr :=
  [
    .rx60Pass, .rx61Pass, .rx62Pass, .rx63Pass,
    .rx64Pass, .rx65Pass, .rx66Pass, .rx67Pass,
    .rx68Pass, .rx69Pass, .rx6APass, .rx6BPass,
    .rx6CPass, .rx6DPass, .rx6EPass, .rx6FPass
  ]

/-- The rows of R80 for bytes `0x70` to `0x7F`. -/
def tableRow7 : List Instr :=
  [
    .rx70Pass, .rx71Pass, .rx72Pass, .rx73Pass,
    .rx74Pass, .rx75Pass, .rx76Pass, .rx77Pass,
    .rx78Pass, .rx79Pass, .rx7APass, .rx7BShiftTab,
    .rx7CShiftTab, .rx7DShiftTab, .rx7EShiftTab, .rx7FPass
  ]

/-- The rows of R80 for bytes `0x80` to `0x8F`. -/
def tableRow8 : List Instr :=
  [
    .rx80Pass, .rx81Pass, .rx82Pass, .rx83Pass,
    .rx84Pass, .rx85Pass, .rx86Pass, .rx87Pass,
    .rx88Pass, .rx89Pass, .rx8APass, .rx8BPass,
    .rx8CPass, .rx8DPass, .rx8EPass, .rx8FPass
  ]

/-- The rows of R80 for bytes `0x90` to `0x9F`. -/
def tableRow9 : List Instr :=
  [
    .rx90Pass, .rx91Pass, .rx92Pass, .rx93Pass,
    .rx94Pass, .rx95Pass, .rx96Pass, .rx97Pass,
    .rx98Pass, .rx99Pass, .rx9APass, .rx9BPass,
    .rx9CPass, .rx9DPass, .rx9EPass, .rx9FPass
  ]

/-- The rows of R80 for bytes `0xA0` to `0xAF`. -/
def tableRowA : List Instr :=
  [
    .rxA0Pass, .rxA1Pass, .rxA2Pass, .rxA3Pass,
    .rxA4Pass, .rxA5Pass, .rxA6Pass, .rxA7Pass,
    .rxA8Pass, .rxA9Pass, .rxAAPass, .rxABPass,
    .rxACPass, .rxADPass, .rxAEPass, .rxAFPass
  ]

/-- The rows of R80 for bytes `0xB0` to `0xBF`. -/
def tableRowB : List Instr :=
  [
    .rxB0Pass, .rxB1Pass, .rxB2Pass, .rxB3Pass,
    .rxB4Pass, .rxB5Pass, .rxB6Pass, .rxB7Pass,
    .rxB8Pass, .rxB9Pass, .rxBAPass, .rxBBPass,
    .rxBCPass, .rxBDPass, .rxBEPass, .rxBFPass
  ]

/-- The rows of R80 for bytes `0xC0` to `0xCF`. -/
def tableRowC : List Instr :=
  [
    .rxC0Pass, .rxC1Pass, .rxC2Pass, .rxC3Pass,
    .rxC4Pass, .rxC5Pass, .rxC6Pass, .rxC7Pass,
    .rxC8Pass, .rxC9Pass, .rxCAPass, .rxCBPass,
    .rxCCPass, .rxCDPass, .rxCEPass, .rxCFPass
  ]

/-- The rows of R80 for bytes `0xD0` to `0xDF`. -/
def tableRowD : List Instr :=
  [
    .rxD0Pass, .rxD1Pass, .rxD2Pass, .rxD3Pass,
    .rxD4Pass, .rxD5Pass, .rxD6Pass, .rxD7Pass,
    .rxD8Pass, .rxD9Pass, .rxDAPass, .rxDBPass,
    .rxDCPass, .rxDDPass, .rxDEPass, .rxDFPass
  ]

/-- The rows of R80 for bytes `0xE0` to `0xEF`. -/
def tableRowE : List Instr :=
  [
    .rxE0Pass, .rxE1Pass, .rxE2Pass, .rxE3Pass,
    .rxE4Pass, .rxE5Pass, .rxE6Pass, .rxE7Pass,
    .rxE8Pass, .rxE9Pass, .rxEAPass, .rxEBPass,
    .rxECPass, .rxEDPass, .rxEEPass, .rxEFPass
  ]

/-- The rows of R80 for bytes `0xF0` to `0xFF`. -/
def tableRowF : List Instr :=
  [
    .rxF0Pass, .rxF1Pass, .rxF2Pass, .rxF3Pass,
    .rxF4Pass, .rxF5Pass, .rxF6Pass, .rxF7Pass,
    .rxF8Pass, .rxF9Pass, .rxFAPass, .rxFBPass,
    .rxFCPass, .rxFDPass, .rxFEPass, .rxFFPass
  ]

/-- The classification table of R80, in the order of the byte values. -/
def instrTable : List Instr :=
  tableRow0 ++ tableRow1 ++ tableRow2 ++ tableRow3 ++ tableRow4 ++ tableRow5 ++ tableRow6 ++ tableRow7 ++
  tableRow8 ++ tableRow9 ++ tableRowA ++ tableRowB ++ tableRowC ++ tableRowD ++ tableRowE ++ tableRowF

/-- The row a byte selects. The table has 256 entries, so the default is never taken (`test_table_length`). -/
def decodeByte (b : Byte) : Instr := instrTable.getD b.toNat .rxFFPass

/-- Decode the first instruction of a byte sequence: the instruction and the bytes after it. -/
def decode : List Byte → Except DecodeError (Instr × List Byte)
  | [] => .error .noByte
  | b :: rest => .ok (decodeByte b, rest)

/-- The byte of a row, from the row's `encoding` in spec/opcode_table.json. -/
def opcode : Instr → Byte
  | .rx00CtrlLow => 0b00000000#8
  | .rx01CtrlRange => 0b00000001#8
  | .rx02CtrlRange => 0b00000010#8
  | .rx03CtrlRange => 0b00000011#8
  | .rx04CtrlRange => 0b00000100#8
  | .rx05CtrlRange => 0b00000101#8
  | .rx06CtrlRange => 0b00000110#8
  | .rx07CtrlRange => 0b00000111#8
  | .rx08Exc => 0b00001000#8
  | .rx09Exc => 0b00001001#8
  | .rx0ACtrlRange => 0b00001010#8
  | .rx0BCtrlRange => 0b00001011#8
  | .rx0CCtrlRange => 0b00001100#8
  | .rx0DExc => 0b00001101#8
  | .rx0ECtrlRange => 0b00001110#8
  | .rx0FCtrlRange => 0b00001111#8
  | .rx10CtrlRange => 0b00010000#8
  | .rx11CtrlRange => 0b00010001#8
  | .rx12CtrlRange => 0b00010010#8
  | .rx13CtrlRange => 0b00010011#8
  | .rx14CtrlRange => 0b00010100#8
  | .rx15CtrlRange => 0b00010101#8
  | .rx16CtrlRange => 0b00010110#8
  | .rx17CtrlRange => 0b00010111#8
  | .rx18CtrlRange => 0b00011000#8
  | .rx19CtrlRange => 0b00011001#8
  | .rx1ACtrlRange => 0b00011010#8
  | .rx1BExc => 0b00011011#8
  | .rx1CCtrlLow => 0b00011100#8
  | .rx1DCtrlLow => 0b00011101#8
  | .rx1ECtrlLow => 0b00011110#8
  | .rx1FCtrlLow => 0b00011111#8
  | .rx20Pass => 0b00100000#8
  | .rx21ShiftTab => 0b00100001#8
  | .rx22ShiftTab => 0b00100010#8
  | .rx23ShiftTab => 0b00100011#8
  | .rx24ShiftTab => 0b00100100#8
  | .rx25ShiftTab => 0b00100101#8
  | .rx26ShiftTab => 0b00100110#8
  | .rx27Pass => 0b00100111#8
  | .rx28ShiftTab => 0b00101000#8
  | .rx29ShiftTab => 0b00101001#8
  | .rx2AShiftTab => 0b00101010#8
  | .rx2BShiftTab => 0b00101011#8
  | .rx2CPass => 0b00101100#8
  | .rx2DPass => 0b00101101#8
  | .rx2EPass => 0b00101110#8
  | .rx2FPass => 0b00101111#8
  | .rx30Pass => 0b00110000#8
  | .rx31Pass => 0b00110001#8
  | .rx32Pass => 0b00110010#8
  | .rx33Pass => 0b00110011#8
  | .rx34Pass => 0b00110100#8
  | .rx35Pass => 0b00110101#8
  | .rx36Pass => 0b00110110#8
  | .rx37Pass => 0b00110111#8
  | .rx38Pass => 0b00111000#8
  | .rx39Pass => 0b00111001#8
  | .rx3AShiftTab => 0b00111010#8
  | .rx3BPass => 0b00111011#8
  | .rx3CShiftTab => 0b00111100#8
  | .rx3DPass => 0b00111101#8
  | .rx3EShiftTab => 0b00111110#8
  | .rx3FShiftTab => 0b00111111#8
  | .rx40ShiftTab => 0b01000000#8
  | .rx41ShiftAlpha => 0b01000001#8
  | .rx42ShiftAlpha => 0b01000010#8
  | .rx43ShiftAlpha => 0b01000011#8
  | .rx44ShiftAlpha => 0b01000100#8
  | .rx45ShiftAlpha => 0b01000101#8
  | .rx46ShiftAlpha => 0b01000110#8
  | .rx47ShiftAlpha => 0b01000111#8
  | .rx48ShiftAlpha => 0b01001000#8
  | .rx49ShiftAlpha => 0b01001001#8
  | .rx4AShiftAlpha => 0b01001010#8
  | .rx4BShiftAlpha => 0b01001011#8
  | .rx4CShiftAlpha => 0b01001100#8
  | .rx4DShiftAlpha => 0b01001101#8
  | .rx4EShiftAlpha => 0b01001110#8
  | .rx4FShiftAlpha => 0b01001111#8
  | .rx50ShiftAlpha => 0b01010000#8
  | .rx51ShiftAlpha => 0b01010001#8
  | .rx52ShiftAlpha => 0b01010010#8
  | .rx53ShiftAlpha => 0b01010011#8
  | .rx54ShiftAlpha => 0b01010100#8
  | .rx55ShiftAlpha => 0b01010101#8
  | .rx56ShiftAlpha => 0b01010110#8
  | .rx57ShiftAlpha => 0b01010111#8
  | .rx58ShiftAlpha => 0b01011000#8
  | .rx59ShiftAlpha => 0b01011001#8
  | .rx5AShiftAlpha => 0b01011010#8
  | .rx5BPass => 0b01011011#8
  | .rx5CPass => 0b01011100#8
  | .rx5DPass => 0b01011101#8
  | .rx5EShiftTab => 0b01011110#8
  | .rx5FShiftTab => 0b01011111#8
  | .rx60Pass => 0b01100000#8
  | .rx61Pass => 0b01100001#8
  | .rx62Pass => 0b01100010#8
  | .rx63Pass => 0b01100011#8
  | .rx64Pass => 0b01100100#8
  | .rx65Pass => 0b01100101#8
  | .rx66Pass => 0b01100110#8
  | .rx67Pass => 0b01100111#8
  | .rx68Pass => 0b01101000#8
  | .rx69Pass => 0b01101001#8
  | .rx6APass => 0b01101010#8
  | .rx6BPass => 0b01101011#8
  | .rx6CPass => 0b01101100#8
  | .rx6DPass => 0b01101101#8
  | .rx6EPass => 0b01101110#8
  | .rx6FPass => 0b01101111#8
  | .rx70Pass => 0b01110000#8
  | .rx71Pass => 0b01110001#8
  | .rx72Pass => 0b01110010#8
  | .rx73Pass => 0b01110011#8
  | .rx74Pass => 0b01110100#8
  | .rx75Pass => 0b01110101#8
  | .rx76Pass => 0b01110110#8
  | .rx77Pass => 0b01110111#8
  | .rx78Pass => 0b01111000#8
  | .rx79Pass => 0b01111001#8
  | .rx7APass => 0b01111010#8
  | .rx7BShiftTab => 0b01111011#8
  | .rx7CShiftTab => 0b01111100#8
  | .rx7DShiftTab => 0b01111101#8
  | .rx7EShiftTab => 0b01111110#8
  | .rx7FPass => 0b01111111#8
  | .rx80Pass => 0b10000000#8
  | .rx81Pass => 0b10000001#8
  | .rx82Pass => 0b10000010#8
  | .rx83Pass => 0b10000011#8
  | .rx84Pass => 0b10000100#8
  | .rx85Pass => 0b10000101#8
  | .rx86Pass => 0b10000110#8
  | .rx87Pass => 0b10000111#8
  | .rx88Pass => 0b10001000#8
  | .rx89Pass => 0b10001001#8
  | .rx8APass => 0b10001010#8
  | .rx8BPass => 0b10001011#8
  | .rx8CPass => 0b10001100#8
  | .rx8DPass => 0b10001101#8
  | .rx8EPass => 0b10001110#8
  | .rx8FPass => 0b10001111#8
  | .rx90Pass => 0b10010000#8
  | .rx91Pass => 0b10010001#8
  | .rx92Pass => 0b10010010#8
  | .rx93Pass => 0b10010011#8
  | .rx94Pass => 0b10010100#8
  | .rx95Pass => 0b10010101#8
  | .rx96Pass => 0b10010110#8
  | .rx97Pass => 0b10010111#8
  | .rx98Pass => 0b10011000#8
  | .rx99Pass => 0b10011001#8
  | .rx9APass => 0b10011010#8
  | .rx9BPass => 0b10011011#8
  | .rx9CPass => 0b10011100#8
  | .rx9DPass => 0b10011101#8
  | .rx9EPass => 0b10011110#8
  | .rx9FPass => 0b10011111#8
  | .rxA0Pass => 0b10100000#8
  | .rxA1Pass => 0b10100001#8
  | .rxA2Pass => 0b10100010#8
  | .rxA3Pass => 0b10100011#8
  | .rxA4Pass => 0b10100100#8
  | .rxA5Pass => 0b10100101#8
  | .rxA6Pass => 0b10100110#8
  | .rxA7Pass => 0b10100111#8
  | .rxA8Pass => 0b10101000#8
  | .rxA9Pass => 0b10101001#8
  | .rxAAPass => 0b10101010#8
  | .rxABPass => 0b10101011#8
  | .rxACPass => 0b10101100#8
  | .rxADPass => 0b10101101#8
  | .rxAEPass => 0b10101110#8
  | .rxAFPass => 0b10101111#8
  | .rxB0Pass => 0b10110000#8
  | .rxB1Pass => 0b10110001#8
  | .rxB2Pass => 0b10110010#8
  | .rxB3Pass => 0b10110011#8
  | .rxB4Pass => 0b10110100#8
  | .rxB5Pass => 0b10110101#8
  | .rxB6Pass => 0b10110110#8
  | .rxB7Pass => 0b10110111#8
  | .rxB8Pass => 0b10111000#8
  | .rxB9Pass => 0b10111001#8
  | .rxBAPass => 0b10111010#8
  | .rxBBPass => 0b10111011#8
  | .rxBCPass => 0b10111100#8
  | .rxBDPass => 0b10111101#8
  | .rxBEPass => 0b10111110#8
  | .rxBFPass => 0b10111111#8
  | .rxC0Pass => 0b11000000#8
  | .rxC1Pass => 0b11000001#8
  | .rxC2Pass => 0b11000010#8
  | .rxC3Pass => 0b11000011#8
  | .rxC4Pass => 0b11000100#8
  | .rxC5Pass => 0b11000101#8
  | .rxC6Pass => 0b11000110#8
  | .rxC7Pass => 0b11000111#8
  | .rxC8Pass => 0b11001000#8
  | .rxC9Pass => 0b11001001#8
  | .rxCAPass => 0b11001010#8
  | .rxCBPass => 0b11001011#8
  | .rxCCPass => 0b11001100#8
  | .rxCDPass => 0b11001101#8
  | .rxCEPass => 0b11001110#8
  | .rxCFPass => 0b11001111#8
  | .rxD0Pass => 0b11010000#8
  | .rxD1Pass => 0b11010001#8
  | .rxD2Pass => 0b11010010#8
  | .rxD3Pass => 0b11010011#8
  | .rxD4Pass => 0b11010100#8
  | .rxD5Pass => 0b11010101#8
  | .rxD6Pass => 0b11010110#8
  | .rxD7Pass => 0b11010111#8
  | .rxD8Pass => 0b11011000#8
  | .rxD9Pass => 0b11011001#8
  | .rxDAPass => 0b11011010#8
  | .rxDBPass => 0b11011011#8
  | .rxDCPass => 0b11011100#8
  | .rxDDPass => 0b11011101#8
  | .rxDEPass => 0b11011110#8
  | .rxDFPass => 0b11011111#8
  | .rxE0Pass => 0b11100000#8
  | .rxE1Pass => 0b11100001#8
  | .rxE2Pass => 0b11100010#8
  | .rxE3Pass => 0b11100011#8
  | .rxE4Pass => 0b11100100#8
  | .rxE5Pass => 0b11100101#8
  | .rxE6Pass => 0b11100110#8
  | .rxE7Pass => 0b11100111#8
  | .rxE8Pass => 0b11101000#8
  | .rxE9Pass => 0b11101001#8
  | .rxEAPass => 0b11101010#8
  | .rxEBPass => 0b11101011#8
  | .rxECPass => 0b11101100#8
  | .rxEDPass => 0b11101101#8
  | .rxEEPass => 0b11101110#8
  | .rxEFPass => 0b11101111#8
  | .rxF0Pass => 0b11110000#8
  | .rxF1Pass => 0b11110001#8
  | .rxF2Pass => 0b11110010#8
  | .rxF3Pass => 0b11110011#8
  | .rxF4Pass => 0b11110100#8
  | .rxF5Pass => 0b11110101#8
  | .rxF6Pass => 0b11110110#8
  | .rxF7Pass => 0b11110111#8
  | .rxF8Pass => 0b11111000#8
  | .rxF9Pass => 0b11111001#8
  | .rxFAPass => 0b11111010#8
  | .rxFBPass => 0b11111011#8
  | .rxFCPass => 0b11111100#8
  | .rxFDPass => 0b11111101#8
  | .rxFEPass => 0b11111110#8
  | .rxFFPass => 0b11111111#8

/-- The encoding of an instruction: one byte, format `RXBYTE` (R70). -/
def encode (i : Instr) : List Byte := [opcode i]

/-- The bytes of an instruction of `nbits` bits with value `w`, the first byte the least significant. -/
def wordBytes (nbits w : Nat) : List Byte :=
  (List.range (nbits / 8)).map fun k => BitVec.ofNat 8 (w >>> (8 * k))

/-- The instruction the decoder reads from a table word. -/
def decodeTableWord (nbits w : Nat) : Option Instr :=
  match decode (wordBytes nbits w) with
  | .ok (i, _) => some i
  | .error _ => none

/-- The classes of R72 by constructor, as the mnemonics of spec/opcode_table.json name them. -/
def Instr.cls : Instr → ScanClass
  | .rx08Exc | .rx09Exc | .rx0DExc | .rx1BExc => .exc
  | .rx00CtrlLow | .rx1CCtrlLow | .rx1DCtrlLow | .rx1ECtrlLow | .rx1FCtrlLow => .ctrlLow
  | .rx21ShiftTab | .rx22ShiftTab | .rx23ShiftTab | .rx24ShiftTab | .rx25ShiftTab | .rx26ShiftTab | .rx28ShiftTab
  | .rx29ShiftTab | .rx2AShiftTab | .rx2BShiftTab | .rx3AShiftTab | .rx3CShiftTab | .rx3EShiftTab | .rx3FShiftTab
  | .rx40ShiftTab | .rx5EShiftTab | .rx5FShiftTab | .rx7BShiftTab | .rx7CShiftTab | .rx7DShiftTab | .rx7EShiftTab => .shiftTab
  | .rx01CtrlRange | .rx02CtrlRange | .rx03CtrlRange | .rx04CtrlRange | .rx05CtrlRange | .rx06CtrlRange
  | .rx07CtrlRange | .rx0ACtrlRange | .rx0BCtrlRange | .rx0CCtrlRange | .rx0ECtrlRange | .rx0FCtrlRange
  | .rx10CtrlRange | .rx11CtrlRange | .rx12CtrlRange | .rx13CtrlRange | .rx14CtrlRange | .rx15CtrlRange
  | .rx16CtrlRange | .rx17CtrlRange | .rx18CtrlRange | .rx19CtrlRange | .rx1ACtrlRange => .ctrlRange
  | .rx41ShiftAlpha | .rx42ShiftAlpha | .rx43ShiftAlpha | .rx44ShiftAlpha | .rx45ShiftAlpha | .rx46ShiftAlpha
  | .rx47ShiftAlpha | .rx48ShiftAlpha | .rx49ShiftAlpha | .rx4AShiftAlpha | .rx4BShiftAlpha | .rx4CShiftAlpha
  | .rx4DShiftAlpha | .rx4EShiftAlpha | .rx4FShiftAlpha | .rx50ShiftAlpha | .rx51ShiftAlpha | .rx52ShiftAlpha
  | .rx53ShiftAlpha | .rx54ShiftAlpha | .rx55ShiftAlpha | .rx56ShiftAlpha | .rx57ShiftAlpha | .rx58ShiftAlpha
  | .rx59ShiftAlpha | .rx5AShiftAlpha => .shiftAlpha
  | .rx20Pass | .rx27Pass | .rx2CPass | .rx2DPass | .rx2EPass | .rx2FPass | .rx30Pass | .rx31Pass | .rx32Pass
  | .rx33Pass | .rx34Pass | .rx35Pass | .rx36Pass | .rx37Pass | .rx38Pass | .rx39Pass | .rx3BPass | .rx3DPass
  | .rx5BPass | .rx5CPass | .rx5DPass | .rx60Pass | .rx61Pass | .rx62Pass | .rx63Pass | .rx64Pass | .rx65Pass
  | .rx66Pass | .rx67Pass | .rx68Pass | .rx69Pass | .rx6APass | .rx6BPass | .rx6CPass | .rx6DPass | .rx6EPass
  | .rx6FPass | .rx70Pass | .rx71Pass | .rx72Pass | .rx73Pass | .rx74Pass | .rx75Pass | .rx76Pass | .rx77Pass
  | .rx78Pass | .rx79Pass | .rx7APass | .rx7FPass | .rx80Pass | .rx81Pass | .rx82Pass | .rx83Pass | .rx84Pass
  | .rx85Pass | .rx86Pass | .rx87Pass | .rx88Pass | .rx89Pass | .rx8APass | .rx8BPass | .rx8CPass | .rx8DPass
  | .rx8EPass | .rx8FPass | .rx90Pass | .rx91Pass | .rx92Pass | .rx93Pass | .rx94Pass | .rx95Pass | .rx96Pass
  | .rx97Pass | .rx98Pass | .rx99Pass | .rx9APass | .rx9BPass | .rx9CPass | .rx9DPass | .rx9EPass | .rx9FPass
  | .rxA0Pass | .rxA1Pass | .rxA2Pass | .rxA3Pass | .rxA4Pass | .rxA5Pass | .rxA6Pass | .rxA7Pass | .rxA8Pass
  | .rxA9Pass | .rxAAPass | .rxABPass | .rxACPass | .rxADPass | .rxAEPass | .rxAFPass | .rxB0Pass | .rxB1Pass
  | .rxB2Pass | .rxB3Pass | .rxB4Pass | .rxB5Pass | .rxB6Pass | .rxB7Pass | .rxB8Pass | .rxB9Pass | .rxBAPass
  | .rxBBPass | .rxBCPass | .rxBDPass | .rxBEPass | .rxBFPass | .rxC0Pass | .rxC1Pass | .rxC2Pass | .rxC3Pass
  | .rxC4Pass | .rxC5Pass | .rxC6Pass | .rxC7Pass | .rxC8Pass | .rxC9Pass | .rxCAPass | .rxCBPass | .rxCCPass
  | .rxCDPass | .rxCEPass | .rxCFPass | .rxD0Pass | .rxD1Pass | .rxD2Pass | .rxD3Pass | .rxD4Pass | .rxD5Pass
  | .rxD6Pass | .rxD7Pass | .rxD8Pass | .rxD9Pass | .rxDAPass | .rxDBPass | .rxDCPass | .rxDDPass | .rxDEPass
  | .rxDFPass | .rxE0Pass | .rxE1Pass | .rxE2Pass | .rxE3Pass | .rxE4Pass | .rxE5Pass | .rxE6Pass | .rxE7Pass
  | .rxE8Pass | .rxE9Pass | .rxEAPass | .rxEBPass | .rxECPass | .rxEDPass | .rxEEPass | .rxEFPass | .rxF0Pass
  | .rxF1Pass | .rxF2Pass | .rxF3Pass | .rxF4Pass | .rxF5Pass | .rxF6Pass | .rxF7Pass | .rxF8Pass | .rxF9Pass
  | .rxFAPass | .rxFBPass | .rxFCPass | .rxFDPass | .rxFEPass | .rxFFPass => .pass

end Sys2Proof
end

