-- ==== Sys2Proof/Machine/Operands.lean ====
section
/-! DEFINITION. The operand forms of the classification: the 8-bit addition of a signed offset and the shapes of an
emission (00_scope.md R11; 30_encoding.md R71, R75), with the constants they use (00_scope.md R8, R9; 10_state.md R33). -/

namespace Sys2Proof.Machine

/-- `SHIFT_MARKER` (R8, R75): the byte after it is a key pressed with Shift held. -/
def shiftMarker : Byte := 0xF5#8

/-- `CTRL_MARKER` (R8, R75): the byte after it is a key pressed with Ctrl held. -/
def ctrlMarker : Byte := 0xF6#8

/-- `add8(a, d) = (a + d) mod 256` for a byte and a signed offset (R11). -/
def add8 (a : Byte) (d : Int) : Byte := BitVec.ofInt 8 ((a.toNat : Int) + d)

/-- The emission of classes 1 and 6: the byte itself (R112, R138). -/
def plainItem (b : Byte) : List Byte := [b]

/-- The emission of classes 2 and 4: the control marker, then the byte plus the class's offset (R113, R136). -/
def controlItem (b : Byte) (d : Int) : List Byte := [ctrlMarker, add8 b d]

/-- The emission of classes 3 and 5: the shift marker, then the byte plus the entry's or class's offset (R114, R137). -/
def shiftItem (b : Byte) (d : Int) : List Byte := [shiftMarker, add8 b d]

/-- Whether a byte is one of the two reserved marker values (R75, R76). -/
def isMarker (b : Byte) : Bool := b == shiftMarker || b == ctrlMarker

end Sys2Proof.Machine
end

