-- ==== Sys2Proof/Machine/Classify.lean ====
section
/-! DEFINITION. The classification algorithm as the spec's function of the received byte: the six rules in priority
order, first match wins (41_scan_translator.md R110), the shift-offset table (R114), and the source's RemapRule names
(00_scope.md R14). The meanings of the rows are written from the rows' own rules; that they agree with this function is
a statement. -/

namespace Sys2Proof.Machine

/-- The set of rule 1 (R112). -/
def excSet : List Byte := [0x08#8, 0x09#8, 0x0D#8, 0x1B#8]

/-- The set of rule 2 (R113). -/
def ctrlLowSet : List Byte := [0x00#8, 0x1C#8, 0x1D#8, 0x1E#8, 0x1F#8]

/-- `SHIFT_TAB`, the 21 entries in the source's order (R114). -/
def shiftTab : List (Byte × Int) :=
  [(0x21#8, 0x10), (0x23#8, 0x10), (0x24#8, 0x10), (0x25#8, 0x10), (0x26#8, 0x11), (0x28#8, 0x11), (0x29#8, 0x07),
   (0x40#8, -0x0E), (0x2A#8, 0x0E), (0x2B#8, 0x12), (0x22#8, 0x05), (0x3A#8, 0x01), (0x3C#8, -0x10), (0x3E#8, -0x10),
   (0x3F#8, -0x10), (0x5E#8, -0x28), (0x5F#8, -0x32), (0x7B#8, -0x20), (0x7C#8, -0x20), (0x7D#8, -0x20), (0x7E#8, -0x1E)]

/-- The class of a byte: the first rule that matches (R72, R110). -/
def classify (b : Byte) : ScanClass :=
  if b ∈ excSet then .exc
  else if b ∈ ctrlLowSet then .ctrlLow
  else if (shiftTab.lookup b).isSome then .shiftTab
  else if b ≤ 0x1F#8 then .ctrlRange
  else if 0x41#8 ≤ b ∧ b ≤ 0x5A#8 then .shiftAlpha
  else .pass

/-- `emission(b)`: the one or two bytes the first matching rule gives (R110). -/
def emission (b : Byte) : List Byte :=
  match classify b with
  | .exc => plainItem b
  | .ctrlLow => controlItem b 0x40
  | .shiftTab => shiftItem b ((shiftTab.lookup b).getD 0)
  | .ctrlRange => controlItem b 0x60
  | .shiftAlpha => shiftItem b 0x20
  | .pass => plainItem b

/-- The source's RemapRule (R14). -/
inductive RemapRule where
  /-- Rule 6. -/
  | passThrough
  /-- Rule 2. -/
  | ctrlOffsetLow
  /-- Rule 4. -/
  | ctrlOffsetHigh
  /-- Rules 3 and 5. -/
  | shiftOffset (delta : Int)
  /-- Rule 1. -/
  | exceptionPassThrough
deriving DecidableEq, Repr

/-- Which RemapRule a byte takes (the correspondence R110 reads from the names and offsets). -/
def remapRule (b : Byte) : RemapRule :=
  match classify b with
  | .exc => .exceptionPassThrough
  | .ctrlLow => .ctrlOffsetLow
  | .shiftTab => .shiftOffset ((shiftTab.lookup b).getD 0)
  | .ctrlRange => .ctrlOffsetHigh
  | .shiftAlpha => .shiftOffset 0x20
  | .pass => .passThrough

end Sys2Proof.Machine
end

