-- ==== Sys2Proof/Machine/State.lean ====
section
/-! DEFINITION. The state of the block as plain data (10_state.md R20), the reasons a step can stop, and the state after
reset (10_state.md R36, 70_reset_and_hazards.md R260). -/

namespace Sys2Proof.Machine

/-- The kinds of notification (10_state.md R29; 43_control_signals.md R191 to R193, R197). -/
inductive TriggerKind where
  /-- `CLICK_ON`: enable audible click (R191). -/
  | clickOn
  /-- `CLICK_OFF`: disable audible click (R192). -/
  | clickOff
  /-- `ACK`: acknowledge (R193). -/
  | ack
deriving DecidableEq, Repr

/-- The model faults of 60_exceptions.md R232. They set a flag and record a byte; they do not stop the operation. -/
inductive FaultCode where
  /-- Code 1: a byte arrived while `rx_q` held `RX_DEPTH` bytes. -/
  | rxOverrun
  /-- Code 2: a control response was issued while `tx_hold` was occupied. -/
  | txOverrun
deriving DecidableEq, Repr

/-- What `raise Fault(code, info)` records (00_scope.md R12, 60_exceptions.md R232). -/
structure FaultRecord where
  /-- Which fault. -/
  code : FaultCode
  /-- The byte involved, which was discarded. -/
  info : Byte
deriving DecidableEq, Repr

/-- What a consumer's operation has returned (`return xs`, 00_scope.md R12). -/
inductive Returned where
  /-- The list a `TAKE` returned (R163). -/
  | take (xs : List Byte)
  /-- The list a `PEEK` returned (R164). -/
  | peek (xs : List Byte)
deriving DecidableEq, Repr

/-- The state. The fields from `buf` to `notifyLog` are the record of R20; `faultLog` holds what R232 records; `cfg`,
`returned`, `agenda` and `turn` are the model's own (assumptions 2, 3 and 5). -/
structure State where
  /-- The parameters of 00_scope.md R8. No operation writes them. -/
  cfg : Params
  /-- `buf`: the slots that hold a byte, by strictly rising index; an unlisted slot holds no value (R23). -/
  buf : List Host.Cell
  /-- `len`: how many bytes the OutputBuffer holds (R24). -/
  len : Nat
  /-- `rx_q`: received bytes not yet translated, oldest first (R26). -/
  rxQ : List Byte
  /-- `tx_hold`: the outbound byte not yet sent, if any (R27). -/
  txHold : Option Byte
  /-- `rx_overrun`: sticky fault flag (R30). -/
  rxOverrun : Bool
  /-- `tx_overrun`: sticky fault flag (R30). -/
  txOverrun : Bool
  /-- `ovf_cnt`: dropped appends, saturating; never written when `OVF_CNT_W` is 0 (R31, R168). -/
  ovfCnt : Nat
  /-- `tx_wire`: bytes sent on the outbound link, in order (R28). -/
  txWire : List Byte
  /-- `notify_log`: notifications emitted, in order (R29). -/
  notifyLog : List TriggerKind
  /-- Every fault raised since reset with its recorded byte, in order (R232). Assumption 6. -/
  faultLog : List FaultRecord
  /-- Every list returned to the consumer since reset, in order. Assumption 5. -/
  returned : List Returned
  /-- The operations already chosen, next first (R5, R237). Assumption 3. -/
  agenda : List Op
  /-- How many operations have been taken from `Config.schedule`. Assumption 3. -/
  turn : Nat
deriving DecidableEq, Repr

/-- Why the model stops. -/
inductive Fault where
  /-- Raised by `memRead`, and so by `TAKE` and `PEEK`, for a slot that holds no value a model may read: an index not
  below `len`, or a slot that is none (10_state.md R23, 20_memory.md R50, 93_implementation_defined.md I1). Safe: the
  model stops, and in the states a run from reset reaches it never happens. -/
  | unreadableSlot (index : Nat)
deriving DecidableEq, Repr

/-- Why the model gives no meaning. -/
inductive Refusal where
  /-- Raised by `exec`'s arm of an instruction without a meaning; no arm does. Safe. -/
  | notModelled (mnemonic : String)
deriving DecidableEq, Repr

/-- The state `RESET` leaves at power-up: every field of R20 at the value of R36. The parameters are the open
constants of Config (assumption 2); nothing is chosen yet (assumption 3). -/
def State.reset : State where
  cfg := Config.params
  buf := []
  len := 0
  rxQ := []
  txHold := none
  rxOverrun := false
  txOverrun := false
  ovfCnt := 0
  txWire := []
  notifyLog := []
  faultLog := []
  returned := []
  agenda := []
  turn := 0

end Sys2Proof.Machine
end

