-- ==== Sys2Proof/Machine/Flags.lean ====
section
/-! DEFINITION. Status, the sticky fault flags and the overflow counter (10_state.md R30 to R32; 42_output_buffer.md R168;
60_exceptions.md R232, R234). -/

namespace Sys2Proof.Machine

/-- `full := (len = CAP)`, derived and signalled to nobody (R32). -/
def State.full (s : State) : Bool := s.len == s.cfg.cap

/-- `empty := (len = 0)` (R32). -/
def State.empty (s : State) : Bool := s.len == 0

/-- The receive-complete interrupt is pending while `rx_q` is non-empty; it is always enabled (R234). -/
def State.rxPending (s : State) : Bool := !s.rxQ.isEmpty

/-- The numbers of R232. -/
def faultNumber : FaultCode → Nat
  | .rxOverrun => 1
  | .txOverrun => 2

/-- `raise Fault(code, info)`: set the sticky flag and record the byte; the operation goes on (00_scope.md R12, R232).
This is the only exception the block takes: it saves nothing, changes no mode and transfers no control (R230, R235). -/
def raiseFault (code : FaultCode) (info : Byte) (s : State) : State :=
  match code with
  | .rxOverrun => { s with rxOverrun := true, faultLog := s.faultLog ++ [⟨.rxOverrun, info⟩] }
  | .txOverrun => { s with txOverrun := true, faultLog := s.faultLog ++ [⟨.txOverrun, info⟩] }

/-- The value at which the counter saturates, `2^OVF_CNT_W - 1` (R168). -/
def ovfMax (p : Params) : Nat := 2 ^ p.ovfCntW - 1

/-- A dropped append: the counter, where there is one, goes up by one and saturates; nothing else is written (R168). -/
def countDrop (s : State) : State :=
  if s.cfg.ovfCntW = 0 then s else { s with ovfCnt := min (s.ovfCnt + 1) (ovfMax s.cfg) }

end Sys2Proof.Machine
end

