-- ==== Sys2Proof/Machine/Ops.lean ====
section
/-! DEFINITION. The named operations: the slots of the OutputBuffer (20_memory.md R50), `APPEND` (42_output_buffer.md R160),
`TX`, `RX` and `TXDONE` (40_link_receiver.md R92, R96, R97), `CONTROL` (43_control_signals.md R190), `TAKE`, `PEEK` and
`RESET` (R163, R164, 70_reset_and_hazards.md R260), and the entry to and return from the receive handler (60_exceptions.md R235, R236). -/

namespace Sys2Proof.Machine

/-- The byte a list of cells holds at an index; none where no entry has it. -/
def Memory.lookup : List Host.Cell → Nat → Option Byte
  | [], _ => none
  | (j, v) :: rest, i => if i = j then some v else Memory.lookup rest i

/-- Put a byte at an index, keeping the indices strictly rising. -/
def Memory.store : List Host.Cell → Nat → Byte → List Host.Cell
  | [], i, v => [(i, v)]
  | (j, w) :: rest, i, v =>
    if i < j then (i, v) :: (j, w) :: rest
    else if i = j then (i, v) :: rest
    else (j, w) :: Memory.store rest i v

/-- The canonical form: indices strictly rising. An unlisted slot holds no value, so no entry equals what an unlisted
slot reads as. -/
def Memory.wf (m : List Host.Cell) : Bool := decide ((m.map Prod.fst).Pairwise (· < ·))

/-- What slot `i` of `buf` holds, a byte or none (10_state.md R23). -/
def State.slot (s : State) (i : Nat) : Option Byte := Memory.lookup s.buf i

/-- `MemRead(i, 1)`: needs `i < len` and a slot that holds a byte; otherwise the model stops (R50; 93_implementation_defined.md I1). -/
def memRead (s : State) (i : Nat) : Except Fault Byte :=
  if i < s.len then
    match s.slot i with
    | some v => .ok v
    | none => .error (.unreadableSlot i)
  else .error (.unreadableSlot i)

/-- `MemWrite(i, 1, v)`: `buf[i] <- some v`. It needs `i < CAP`; its one use, `append`, checks that first (R50). -/
def memWrite (i : Nat) (v : Byte) (s : State) : State := { s with buf := Memory.store s.buf i v }

/-- `MemRead` of `n` slots from `i` on, in order (R54). -/
def readFrom (s : State) : Nat → Nat → Except Fault (List Byte)
  | _, 0 => .ok []
  | i, n + 1 =>
    match memRead s i with
    | .error f => .error f
    | .ok v =>
      match readFrom s (i + 1) n with
      | .error f => .error f
      | .ok vs => .ok (v :: vs)

/-- `[MemRead(0, 1), ..., MemRead(len - 1, 1)]` (R163, R164). -/
def readAll (s : State) : Except Fault (List Byte) := readFrom s 0 s.len

/-- `APPEND(v)`: store at index `len` when there is room, else drop (R160, R161, R168). -/
def append (v : Byte) (s : State) : State :=
  if s.len < s.cfg.cap then { memWrite s.len v s with len := s.len + 1 } else countDrop s

/-- `for v in vs, first to last: APPEND(v)` (R111). Each byte is checked against capacity on its own (R169). -/
def appendAll : List Byte → State → State
  | [], s => s
  | v :: vs, s => appendAll vs (append v s)

/-- `TX(v)`: hold the byte, or raise `TX_OVERRUN` when one is still pending; it never waits (R96, R99). -/
def tx (v : Byte) (s : State) : State :=
  match s.txHold with
  | none => { s with txHold := some v }
  | some _ => raiseFault .txOverrun v s

/-- `emit Notify(k)`: recorded by kind, never blocking (R29, R197). -/
def notify (k : TriggerKind) (s : State) : State := { s with notifyLog := s.notifyLog ++ [k] }

/-- The control byte of each kind of response (R78, R191 to R193). -/
def responseByte : TriggerKind → Byte
  | .clickOn => 0x04#8
  | .clickOff => 0x0A#8
  | .ack => 0x10#8

/-- Which response a received byte triggers, if any (30_encoding.md R73; R190, R194). -/
def triggerOf (b : Byte) : Option TriggerKind :=
  if b = 0xC3#8 then some .clickOn
  else if b = 0xB2#8 then some .clickOff
  else if b = 0x0A#8 then some .ack
  else none

/-- `CONTROL(b)`: on the received byte, after all its appends. The notification is emitted even when `TX` faults (R190, R191). -/
def controlStep (b : Byte) (s : State) : State :=
  match triggerOf b with
  | some k => notify k (tx (responseByte k) s)
  | none => s

/-- Entry to the receive handler: the oldest received byte is taken from `rx_q`. Not enabled while `rx_q` is empty (R111,
R234). It saves no state and changes no mode (R235). -/
def enterHandler (s : State) : Option (Byte × State) :=
  match s.rxQ with
  | [] => none
  | b :: q => some (b, { s with rxQ := q })

/-- Return from the receive handler: receive interrupts are enabled again. Between operations they always are, so no
field changes (R235, R236). Assumption 8. -/
def leaveHandler (s : State) : State := s

/-- The handling of one byte once it is taken from `rx_q`: the appends of its emission, the control step on the byte
itself, and the return (R111). -/
def handleByte (b : Byte) (ys : List Byte) (s : State) : Host.Outcome State Fault Refusal :=
  .next (leaveHandler (controlStep b (appendAll ys s)))

/-- `RX(b)`: the link delivers a byte, or raises `RX_OVERRUN` and discards it (R92). -/
def rx (b : Byte) (s : State) : State :=
  if s.rxQ.length < s.cfg.rxDepth then { s with rxQ := s.rxQ ++ [b] } else raiseFault .rxOverrun b s

/-- `TXDONE`: the link sends the pending byte. Not enabled while none is pending (R97). -/
def txDone (s : State) : Option State :=
  match s.txHold with
  | some v => some { s with txHold := none, txWire := s.txWire ++ [v] }
  | none => none

/-- `TAKE`: return all stored bytes and empty the buffer, in one step (R163). -/
def take (s : State) : Host.Outcome State Fault Refusal :=
  match readAll s with
  | .ok xs => .next { s with buf := [], len := 0, returned := s.returned ++ [.take xs] }
  | .error f => .fault f

/-- `PEEK`: return all stored bytes (R164). -/
def peek (s : State) : Host.Outcome State Fault Refusal :=
  match readAll s with
  | .ok xs => .next { s with returned := s.returned ++ [.peek xs] }
  | .error f => .fault f

/-- `RESET`: every field of the block to its reset value (R260). It changes no parameter (R260); what the environment
has chosen to do next is not the block's (assumption 3). -/
def resetBlock (s : State) : State :=
  { State.reset with cfg := s.cfg, agenda := s.agenda, turn := s.turn }

/-- The next operation: the first one already chosen, else a free choice (R5, R237). Assumption 3. -/
def nextOp (s : State) : Op :=
  match s.agenda with
  | op :: _ => op
  | [] => Config.schedule s.turn

/-- The choice of the next operation is used up. -/
def advance (s : State) : State :=
  match s.agenda with
  | _ :: rest => { s with agenda := rest }
  | [] => { s with turn := s.turn + 1 }

end Sys2Proof.Machine
end

