-- ==== Sys2Proof/Machine/CtrlLow.lean ====
section
/-! DEFINITION. The meanings of class 2, rule 2, low control-offset set (41_scan_translator.md R113): the control marker, then the byte plus `0x40`.
Each is the handling of one byte after it was taken from the receive queue (R111): the appends of its emission, then the
control step (43_control_signals.md R190). -/

namespace Sys2Proof.Machine

/-- `RX_00_CTRL_LOW` (R113). -/
def execRx00CtrlLow (s : State) : Host.Outcome State Fault Refusal := handleByte 0x00#8 (controlItem 0x00#8 0x40) s

/-- `RX_1C_CTRL_LOW` (R113). -/
def execRx1CCtrlLow (s : State) : Host.Outcome State Fault Refusal := handleByte 0x1C#8 (controlItem 0x1C#8 0x40) s

/-- `RX_1D_CTRL_LOW` (R113). -/
def execRx1DCtrlLow (s : State) : Host.Outcome State Fault Refusal := handleByte 0x1D#8 (controlItem 0x1D#8 0x40) s

/-- `RX_1E_CTRL_LOW` (R113). -/
def execRx1ECtrlLow (s : State) : Host.Outcome State Fault Refusal := handleByte 0x1E#8 (controlItem 0x1E#8 0x40) s

/-- `RX_1F_CTRL_LOW` (R113). -/
def execRx1FCtrlLow (s : State) : Host.Outcome State Fault Refusal := handleByte 0x1F#8 (controlItem 0x1F#8 0x40) s

end Sys2Proof.Machine
end

