-- ==== Sys2Proof/Machine/CtrlRange.lean ====
section
/-! DEFINITION. The meanings of class 4, rule 4, low control range (41_scan_translator.md R136): the control marker, then the byte plus `0x60`.
Each is the handling of one byte after it was taken from the receive queue (R111): the appends of its emission, then the
control step (43_control_signals.md R190). -/

namespace Sys2Proof.Machine

/-- `RX_01_CTRL_RANGE` (R136). -/
def execRx01CtrlRange (s : State) : Host.Outcome State Fault Refusal := handleByte 0x01#8 (controlItem 0x01#8 0x60) s

/-- `RX_02_CTRL_RANGE` (R136). -/
def execRx02CtrlRange (s : State) : Host.Outcome State Fault Refusal := handleByte 0x02#8 (controlItem 0x02#8 0x60) s

/-- `RX_03_CTRL_RANGE` (R136). -/
def execRx03CtrlRange (s : State) : Host.Outcome State Fault Refusal := handleByte 0x03#8 (controlItem 0x03#8 0x60) s

/-- `RX_04_CTRL_RANGE` (R136). -/
def execRx04CtrlRange (s : State) : Host.Outcome State Fault Refusal := handleByte 0x04#8 (controlItem 0x04#8 0x60) s

/-- `RX_05_CTRL_RANGE` (R136). -/
def execRx05CtrlRange (s : State) : Host.Outcome State Fault Refusal := handleByte 0x05#8 (controlItem 0x05#8 0x60) s

/-- `RX_06_CTRL_RANGE` (R136). -/
def execRx06CtrlRange (s : State) : Host.Outcome State Fault Refusal := handleByte 0x06#8 (controlItem 0x06#8 0x60) s

/-- `RX_07_CTRL_RANGE` (R136). -/
def execRx07CtrlRange (s : State) : Host.Outcome State Fault Refusal := handleByte 0x07#8 (controlItem 0x07#8 0x60) s

/-- `RX_0A_CTRL_RANGE` (R136; also sends `0x10` (R193)). -/
def execRx0ACtrlRange (s : State) : Host.Outcome State Fault Refusal := handleByte 0x0A#8 (controlItem 0x0A#8 0x60) s

/-- `RX_0B_CTRL_RANGE` (R136). -/
def execRx0BCtrlRange (s : State) : Host.Outcome State Fault Refusal := handleByte 0x0B#8 (controlItem 0x0B#8 0x60) s

/-- `RX_0C_CTRL_RANGE` (R136). -/
def execRx0CCtrlRange (s : State) : Host.Outcome State Fault Refusal := handleByte 0x0C#8 (controlItem 0x0C#8 0x60) s

/-- `RX_0E_CTRL_RANGE` (R136). -/
def execRx0ECtrlRange (s : State) : Host.Outcome State Fault Refusal := handleByte 0x0E#8 (controlItem 0x0E#8 0x60) s

/-- `RX_0F_CTRL_RANGE` (R136). -/
def execRx0FCtrlRange (s : State) : Host.Outcome State Fault Refusal := handleByte 0x0F#8 (controlItem 0x0F#8 0x60) s

/-- `RX_10_CTRL_RANGE` (R136). -/
def execRx10CtrlRange (s : State) : Host.Outcome State Fault Refusal := handleByte 0x10#8 (controlItem 0x10#8 0x60) s

/-- `RX_11_CTRL_RANGE` (R136). -/
def execRx11CtrlRange (s : State) : Host.Outcome State Fault Refusal := handleByte 0x11#8 (controlItem 0x11#8 0x60) s

/-- `RX_12_CTRL_RANGE` (R136). -/
def execRx12CtrlRange (s : State) : Host.Outcome State Fault Refusal := handleByte 0x12#8 (controlItem 0x12#8 0x60) s

/-- `RX_13_CTRL_RANGE` (R136). -/
def execRx13CtrlRange (s : State) : Host.Outcome State Fault Refusal := handleByte 0x13#8 (controlItem 0x13#8 0x60) s

/-- `RX_14_CTRL_RANGE` (R136). -/
def execRx14CtrlRange (s : State) : Host.Outcome State Fault Refusal := handleByte 0x14#8 (controlItem 0x14#8 0x60) s

/-- `RX_15_CTRL_RANGE` (R136). -/
def execRx15CtrlRange (s : State) : Host.Outcome State Fault Refusal := handleByte 0x15#8 (controlItem 0x15#8 0x60) s

/-- `RX_16_CTRL_RANGE` (R136). -/
def execRx16CtrlRange (s : State) : Host.Outcome State Fault Refusal := handleByte 0x16#8 (controlItem 0x16#8 0x60) s

/-- `RX_17_CTRL_RANGE` (R136). -/
def execRx17CtrlRange (s : State) : Host.Outcome State Fault Refusal := handleByte 0x17#8 (controlItem 0x17#8 0x60) s

/-- `RX_18_CTRL_RANGE` (R136). -/
def execRx18CtrlRange (s : State) : Host.Outcome State Fault Refusal := handleByte 0x18#8 (controlItem 0x18#8 0x60) s

/-- `RX_19_CTRL_RANGE` (R136). -/
def execRx19CtrlRange (s : State) : Host.Outcome State Fault Refusal := handleByte 0x19#8 (controlItem 0x19#8 0x60) s

/-- `RX_1A_CTRL_RANGE` (R136). -/
def execRx1ACtrlRange (s : State) : Host.Outcome State Fault Refusal := handleByte 0x1A#8 (controlItem 0x1A#8 0x60) s

end Sys2Proof.Machine
end

