-- ==== Sys2Proof/Machine/Exc.lean ====
section
/-! DEFINITION. The meanings of class 1, rule 1, exception passthrough (41_scan_translator.md R112): the byte itself.
Each is the handling of one byte after it was taken from the receive queue (R111): the appends of its emission, then the
control step (43_control_signals.md R190). -/

namespace Sys2Proof.Machine

/-- `RX_08_EXC` (R112). -/
def execRx08Exc (s : State) : Host.Outcome State Fault Refusal := handleByte 0x08#8 (plainItem 0x08#8) s

/-- `RX_09_EXC` (R112). -/
def execRx09Exc (s : State) : Host.Outcome State Fault Refusal := handleByte 0x09#8 (plainItem 0x09#8) s

/-- `RX_0D_EXC` (R112). -/
def execRx0DExc (s : State) : Host.Outcome State Fault Refusal := handleByte 0x0D#8 (plainItem 0x0D#8) s

/-- `RX_1B_EXC` (R112). -/
def execRx1BExc (s : State) : Host.Outcome State Fault Refusal := handleByte 0x1B#8 (plainItem 0x1B#8) s

end Sys2Proof.Machine
end

