-- ==== Sys2Proof/Machine/Pass.lean ====
section
/-! DEFINITION. The meanings of class 6, rule 6, default (41_scan_translator.md R138): the byte itself.
Each is the handling of one byte after it was taken from the receive queue (R111): the appends of its emission, then the
control step (43_control_signals.md R190). -/

namespace Sys2Proof.Machine

/-- `RX_20_PASS` (R138). -/
def execRx20Pass (s : State) : Host.Outcome State Fault Refusal := handleByte 0x20#8 (plainItem 0x20#8) s

/-- `RX_27_PASS` (R138). -/
def execRx27Pass (s : State) : Host.Outcome State Fault Refusal := handleByte 0x27#8 (plainItem 0x27#8) s

/-- `RX_2C_PASS` (R138). -/
def execRx2CPass (s : State) : Host.Outcome State Fault Refusal := handleByte 0x2C#8 (plainItem 0x2C#8) s

/-- `RX_2D_PASS` (R138). -/
def execRx2DPass (s : State) : Host.Outcome State Fault Refusal := handleByte 0x2D#8 (plainItem 0x2D#8) s

/-- `RX_2E_PASS` (R138). -/
def execRx2EPass (s : State) : Host.Outcome State Fault Refusal := handleByte 0x2E#8 (plainItem 0x2E#8) s

/-- `RX_2F_PASS` (R138). -/
def execRx2FPass (s : State) : Host.Outcome State Fault Refusal := handleByte 0x2F#8 (plainItem 0x2F#8) s

/-- `RX_30_PASS` (R138). -/
def execRx30Pass (s : State) : Host.Outcome State Fault Refusal := handleByte 0x30#8 (plainItem 0x30#8) s

/-- `RX_31_PASS` (R138). -/
def execRx31Pass (s : State) : Host.Outcome State Fault Refusal := handleByte 0x31#8 (plainItem 0x31#8) s

/-- `RX_32_PASS` (R138). -/
def execRx32Pass (s : State) : Host.Outcome State Fault Refusal := handleByte 0x32#8 (plainItem 0x32#8) s

/-- `RX_33_PASS` (R138). -/
def execRx33Pass (s : State) : Host.Outcome State Fault Refusal := handleByte 0x33#8 (plainItem 0x33#8) s

/-- `RX_34_PASS` (R138). -/
def execRx34Pass (s : State) : Host.Outcome State Fault Refusal := handleByte 0x34#8 (plainItem 0x34#8) s

/-- `RX_35_PASS` (R138). -/
def execRx35Pass (s : State) : Host.Outcome State Fault Refusal := handleByte 0x35#8 (plainItem 0x35#8) s

/-- `RX_36_PASS` (R138). -/
def execRx36Pass (s : State) : Host.Outcome State Fault Refusal := handleByte 0x36#8 (plainItem 0x36#8) s

/-- `RX_37_PASS` (R138). -/
def execRx37Pass (s : State) : Host.Outcome State Fault Refusal := handleByte 0x37#8 (plainItem 0x37#8) s

/-- `RX_38_PASS` (R138). -/
def execRx38Pass (s : State) : Host.Outcome State Fault Refusal := handleByte 0x38#8 (plainItem 0x38#8) s

/-- `RX_39_PASS` (R138). -/
def execRx39Pass (s : State) : Host.Outcome State Fault Refusal := handleByte 0x39#8 (plainItem 0x39#8) s

/-- `RX_3B_PASS` (R138). -/
def execRx3BPass (s : State) : Host.Outcome State Fault Refusal := handleByte 0x3B#8 (plainItem 0x3B#8) s

/-- `RX_3D_PASS` (R138). -/
def execRx3DPass (s : State) : Host.Outcome State Fault Refusal := handleByte 0x3D#8 (plainItem 0x3D#8) s

/-- `RX_5B_PASS` (R138). -/
def execRx5BPass (s : State) : Host.Outcome State Fault Refusal := handleByte 0x5B#8 (plainItem 0x5B#8) s

/-- `RX_5C_PASS` (R138). -/
def execRx5CPass (s : State) : Host.Outcome State Fault Refusal := handleByte 0x5C#8 (plainItem 0x5C#8) s

/-- `RX_5D_PASS` (R138). -/
def execRx5DPass (s : State) : Host.Outcome State Fault Refusal := handleByte 0x5D#8 (plainItem 0x5D#8) s

/-- `RX_60_PASS` (R138). -/
def execRx60Pass (s : State) : Host.Outcome State Fault Refusal := handleByte 0x60#8 (plainItem 0x60#8) s

/-- `RX_61_PASS` (R138). -/
def execRx61Pass (s : State) : Host.Outcome State Fault Refusal := handleByte 0x61#8 (plainItem 0x61#8) s

/-- `RX_62_PASS` (R138). -/
def execRx62Pass (s : State) : Host.Outcome State Fault Refusal := handleByte 0x62#8 (plainItem 0x62#8) s

/-- `RX_63_PASS` (R138). -/
def execRx63Pass (s : State) : Host.Outcome State Fault Refusal := handleByte 0x63#8 (plainItem 0x63#8) s

/-- `RX_64_PASS` (R138). -/
def execRx64Pass (s : State) : Host.Outcome State Fault Refusal := handleByte 0x64#8 (plainItem 0x64#8) s

/-- `RX_65_PASS` (R138). -/
def execRx65Pass (s : State) : Host.Outcome State Fault Refusal := handleByte 0x65#8 (plainItem 0x65#8) s

/-- `RX_66_PASS` (R138). -/
def execRx66Pass (s : State) : Host.Outcome State Fault Refusal := handleByte 0x66#8 (plainItem 0x66#8) s

/-- `RX_67_PASS` (R138). -/
def execRx67Pass (s : State) : Host.Outcome State Fault Refusal := handleByte 0x67#8 (plainItem 0x67#8) s

/-- `RX_68_PASS` (R138). -/
def execRx68Pass (s : State) : Host.Outcome State Fault Refusal := handleByte 0x68#8 (plainItem 0x68#8) s

/-- `RX_69_PASS` (R138). -/
def execRx69Pass (s : State) : Host.Outcome State Fault Refusal := handleByte 0x69#8 (plainItem 0x69#8) s

/-- `RX_6A_PASS` (R138). -/
def execRx6APass (s : State) : Host.Outcome State Fault Refusal := handleByte 0x6A#8 (plainItem 0x6A#8) s

/-- `RX_6B_PASS` (R138). -/
def execRx6BPass (s : State) : Host.Outcome State Fault Refusal := handleByte 0x6B#8 (plainItem 0x6B#8) s

/-- `RX_6C_PASS` (R138). -/
def execRx6CPass (s : State) : Host.Outcome State Fault Refusal := handleByte 0x6C#8 (plainItem 0x6C#8) s

/-- `RX_6D_PASS` (R138). -/
def execRx6DPass (s : State) : Host.Outcome State Fault Refusal := handleByte 0x6D#8 (plainItem 0x6D#8) s

/-- `RX_6E_PASS` (R138). -/
def execRx6EPass (s : State) : Host.Outcome State Fault Refusal := handleByte 0x6E#8 (plainItem 0x6E#8) s

/-- `RX_6F_PASS` (R138). -/
def execRx6FPass (s : State) : Host.Outcome State Fault Refusal := handleByte 0x6F#8 (plainItem 0x6F#8) s

/-- `RX_70_PASS` (R138). -/
def execRx70Pass (s : State) : Host.Outcome State Fault Refusal := handleByte 0x70#8 (plainItem 0x70#8) s

/-- `RX_71_PASS` (R138). -/
def execRx71Pass (s : State) : Host.Outcome State Fault Refusal := handleByte 0x71#8 (plainItem 0x71#8) s

/-- `RX_72_PASS` (R138). -/
def execRx72Pass (s : State) : Host.Outcome State Fault Refusal := handleByte 0x72#8 (plainItem 0x72#8) s

/-- `RX_73_PASS` (R138). -/
def execRx73Pass (s : State) : Host.Outcome State Fault Refusal := handleByte 0x73#8 (plainItem 0x73#8) s

/-- `RX_74_PASS` (R138). -/
def execRx74Pass (s : State) : Host.Outcome State Fault Refusal := handleByte 0x74#8 (plainItem 0x74#8) s

/-- `RX_75_PASS` (R138). -/
def execRx75Pass (s : State) : Host.Outcome State Fault Refusal := handleByte 0x75#8 (plainItem 0x75#8) s

/-- `RX_76_PASS` (R138). -/
def execRx76Pass (s : State) : Host.Outcome State Fault Refusal := handleByte 0x76#8 (plainItem 0x76#8) s

/-- `RX_77_PASS` (R138). -/
def execRx77Pass (s : State) : Host.Outcome State Fault Refusal := handleByte 0x77#8 (plainItem 0x77#8) s

/-- `RX_78_PASS` (R138). -/
def execRx78Pass (s : State) : Host.Outcome State Fault Refusal := handleByte 0x78#8 (plainItem 0x78#8) s

/-- `RX_79_PASS` (R138). -/
def execRx79Pass (s : State) : Host.Outcome State Fault Refusal := handleByte 0x79#8 (plainItem 0x79#8) s

/-- `RX_7A_PASS` (R138). -/
def execRx7APass (s : State) : Host.Outcome State Fault Refusal := handleByte 0x7A#8 (plainItem 0x7A#8) s

/-- `RX_7F_PASS` (R138). -/
def execRx7FPass (s : State) : Host.Outcome State Fault Refusal := handleByte 0x7F#8 (plainItem 0x7F#8) s

/-- `RX_80_PASS` (R138). -/
def execRx80Pass (s : State) : Host.Outcome State Fault Refusal := handleByte 0x80#8 (plainItem 0x80#8) s

/-- `RX_81_PASS` (R138). -/
def execRx81Pass (s : State) : Host.Outcome State Fault Refusal := handleByte 0x81#8 (plainItem 0x81#8) s

/-- `RX_82_PASS` (R138). -/
def execRx82Pass (s : State) : Host.Outcome State Fault Refusal := handleByte 0x82#8 (plainItem 0x82#8) s

/-- `RX_83_PASS` (R138). -/
def execRx83Pass (s : State) : Host.Outcome State Fault Refusal := handleByte 0x83#8 (plainItem 0x83#8) s

/-- `RX_84_PASS` (R138). -/
def execRx84Pass (s : State) : Host.Outcome State Fault Refusal := handleByte 0x84#8 (plainItem 0x84#8) s

/-- `RX_85_PASS` (R138). -/
def execRx85Pass (s : State) : Host.Outcome State Fault Refusal := handleByte 0x85#8 (plainItem 0x85#8) s

/-- `RX_86_PASS` (R138). -/
def execRx86Pass (s : State) : Host.Outcome State Fault Refusal := handleByte 0x86#8 (plainItem 0x86#8) s

/-- `RX_87_PASS` (R138). -/
def execRx87Pass (s : State) : Host.Outcome State Fault Refusal := handleByte 0x87#8 (plainItem 0x87#8) s

/-- `RX_88_PASS` (R138). -/
def execRx88Pass (s : State) : Host.Outcome State Fault Refusal := handleByte 0x88#8 (plainItem 0x88#8) s

/-- `RX_89_PASS` (R138). -/
def execRx89Pass (s : State) : Host.Outcome State Fault Refusal := handleByte 0x89#8 (plainItem 0x89#8) s

/-- `RX_8A_PASS` (R138). -/
def execRx8APass (s : State) : Host.Outcome State Fault Refusal := handleByte 0x8A#8 (plainItem 0x8A#8) s

/-- `RX_8B_PASS` (R138). -/
def execRx8BPass (s : State) : Host.Outcome State Fault Refusal := handleByte 0x8B#8 (plainItem 0x8B#8) s

/-- `RX_8C_PASS` (R138). -/
def execRx8CPass (s : State) : Host.Outcome State Fault Refusal := handleByte 0x8C#8 (plainItem 0x8C#8) s

/-- `RX_8D_PASS` (R138). -/
def execRx8DPass (s : State) : Host.Outcome State Fault Refusal := handleByte 0x8D#8 (plainItem 0x8D#8) s

/-- `RX_8E_PASS` (R138). -/
def execRx8EPass (s : State) : Host.Outcome State Fault Refusal := handleByte 0x8E#8 (plainItem 0x8E#8) s

/-- `RX_8F_PASS` (R138). -/
def execRx8FPass (s : State) : Host.Outcome State Fault Refusal := handleByte 0x8F#8 (plainItem 0x8F#8) s

/-- `RX_90_PASS` (R138). -/
def execRx90Pass (s : State) : Host.Outcome State Fault Refusal := handleByte 0x90#8 (plainItem 0x90#8) s

/-- `RX_91_PASS` (R138). -/
def execRx91Pass (s : State) : Host.Outcome State Fault Refusal := handleByte 0x91#8 (plainItem 0x91#8) s

/-- `RX_92_PASS` (R138). -/
def execRx92Pass (s : State) : Host.Outcome State Fault Refusal := handleByte 0x92#8 (plainItem 0x92#8) s

/-- `RX_93_PASS` (R138). -/
def execRx93Pass (s : State) : Host.Outcome State Fault Refusal := handleByte 0x93#8 (plainItem 0x93#8) s

/-- `RX_94_PASS` (R138). -/
def execRx94Pass (s : State) : Host.Outcome State Fault Refusal := handleByte 0x94#8 (plainItem 0x94#8) s

/-- `RX_95_PASS` (R138). -/
def execRx95Pass (s : State) : Host.Outcome State Fault Refusal := handleByte 0x95#8 (plainItem 0x95#8) s

/-- `RX_96_PASS` (R138). -/
def execRx96Pass (s : State) : Host.Outcome State Fault Refusal := handleByte 0x96#8 (plainItem 0x96#8) s

/-- `RX_97_PASS` (R138). -/
def execRx97Pass (s : State) : Host.Outcome State Fault Refusal := handleByte 0x97#8 (plainItem 0x97#8) s

/-- `RX_98_PASS` (R138). -/
def execRx98Pass (s : State) : Host.Outcome State Fault Refusal := handleByte 0x98#8 (plainItem 0x98#8) s

/-- `RX_99_PASS` (R138). -/
def execRx99Pass (s : State) : Host.Outcome State Fault Refusal := handleByte 0x99#8 (plainItem 0x99#8) s

/-- `RX_9A_PASS` (R138). -/
def execRx9APass (s : State) : Host.Outcome State Fault Refusal := handleByte 0x9A#8 (plainItem 0x9A#8) s

/-- `RX_9B_PASS` (R138). -/
def execRx9BPass (s : State) : Host.Outcome State Fault Refusal := handleByte 0x9B#8 (plainItem 0x9B#8) s

/-- `RX_9C_PASS` (R138). -/
def execRx9CPass (s : State) : Host.Outcome State Fault Refusal := handleByte 0x9C#8 (plainItem 0x9C#8) s

/-- `RX_9D_PASS` (R138). -/
def execRx9DPass (s : State) : Host.Outcome State Fault Refusal := handleByte 0x9D#8 (plainItem 0x9D#8) s

/-- `RX_9E_PASS` (R138). -/
def execRx9EPass (s : State) : Host.Outcome State Fault Refusal := handleByte 0x9E#8 (plainItem 0x9E#8) s

/-- `RX_9F_PASS` (R138). -/
def execRx9FPass (s : State) : Host.Outcome State Fault Refusal := handleByte 0x9F#8 (plainItem 0x9F#8) s

/-- `RX_A0_PASS` (R138). -/
def execRxA0Pass (s : State) : Host.Outcome State Fault Refusal := handleByte 0xA0#8 (plainItem 0xA0#8) s

/-- `RX_A1_PASS` (R138). -/
def execRxA1Pass (s : State) : Host.Outcome State Fault Refusal := handleByte 0xA1#8 (plainItem 0xA1#8) s

/-- `RX_A2_PASS` (R138). -/
def execRxA2Pass (s : State) : Host.Outcome State Fault Refusal := handleByte 0xA2#8 (plainItem 0xA2#8) s

/-- `RX_A3_PASS` (R138). -/
def execRxA3Pass (s : State) : Host.Outcome State Fault Refusal := handleByte 0xA3#8 (plainItem 0xA3#8) s

/-- `RX_A4_PASS` (R138). -/
def execRxA4Pass (s : State) : Host.Outcome State Fault Refusal := handleByte 0xA4#8 (plainItem 0xA4#8) s

/-- `RX_A5_PASS` (R138). -/
def execRxA5Pass (s : State) : Host.Outcome State Fault Refusal := handleByte 0xA5#8 (plainItem 0xA5#8) s

/-- `RX_A6_PASS` (R138). -/
def execRxA6Pass (s : State) : Host.Outcome State Fault Refusal := handleByte 0xA6#8 (plainItem 0xA6#8) s

/-- `RX_A7_PASS` (R138). -/
def execRxA7Pass (s : State) : Host.Outcome State Fault Refusal := handleByte 0xA7#8 (plainItem 0xA7#8) s

/-- `RX_A8_PASS` (R138). -/
def execRxA8Pass (s : State) : Host.Outcome State Fault Refusal := handleByte 0xA8#8 (plainItem 0xA8#8) s

/-- `RX_A9_PASS` (R138). -/
def execRxA9Pass (s : State) : Host.Outcome State Fault Refusal := handleByte 0xA9#8 (plainItem 0xA9#8) s

/-- `RX_AA_PASS` (R138). -/
def execRxAAPass (s : State) : Host.Outcome State Fault Refusal := handleByte 0xAA#8 (plainItem 0xAA#8) s

/-- `RX_AB_PASS` (R138). -/
def execRxABPass (s : State) : Host.Outcome State Fault Refusal := handleByte 0xAB#8 (plainItem 0xAB#8) s

/-- `RX_AC_PASS` (R138). -/
def execRxACPass (s : State) : Host.Outcome State Fault Refusal := handleByte 0xAC#8 (plainItem 0xAC#8) s

/-- `RX_AD_PASS` (R138). -/
def execRxADPass (s : State) : Host.Outcome State Fault Refusal := handleByte 0xAD#8 (plainItem 0xAD#8) s

/-- `RX_AE_PASS` (R138). -/
def execRxAEPass (s : State) : Host.Outcome State Fault Refusal := handleByte 0xAE#8 (plainItem 0xAE#8) s

/-- `RX_AF_PASS` (R138). -/
def execRxAFPass (s : State) : Host.Outcome State Fault Refusal := handleByte 0xAF#8 (plainItem 0xAF#8) s

/-- `RX_B0_PASS` (R138). -/
def execRxB0Pass (s : State) : Host.Outcome State Fault Refusal := handleByte 0xB0#8 (plainItem 0xB0#8) s

/-- `RX_B1_PASS` (R138). -/
def execRxB1Pass (s : State) : Host.Outcome State Fault Refusal := handleByte 0xB1#8 (plainItem 0xB1#8) s

/-- `RX_B2_PASS` (R138; also sends `0x0A` (R192)). -/
def execRxB2Pass (s : State) : Host.Outcome State Fault Refusal := handleByte 0xB2#8 (plainItem 0xB2#8) s

/-- `RX_B3_PASS` (R138). -/
def execRxB3Pass (s : State) : Host.Outcome State Fault Refusal := handleByte 0xB3#8 (plainItem 0xB3#8) s

/-- `RX_B4_PASS` (R138). -/
def execRxB4Pass (s : State) : Host.Outcome State Fault Refusal := handleByte 0xB4#8 (plainItem 0xB4#8) s

/-- `RX_B5_PASS` (R138). -/
def execRxB5Pass (s : State) : Host.Outcome State Fault Refusal := handleByte 0xB5#8 (plainItem 0xB5#8) s

/-- `RX_B6_PASS` (R138). -/
def execRxB6Pass (s : State) : Host.Outcome State Fault Refusal := handleByte 0xB6#8 (plainItem 0xB6#8) s

/-- `RX_B7_PASS` (R138). -/
def execRxB7Pass (s : State) : Host.Outcome State Fault Refusal := handleByte 0xB7#8 (plainItem 0xB7#8) s

/-- `RX_B8_PASS` (R138). -/
def execRxB8Pass (s : State) : Host.Outcome State Fault Refusal := handleByte 0xB8#8 (plainItem 0xB8#8) s

/-- `RX_B9_PASS` (R138). -/
def execRxB9Pass (s : State) : Host.Outcome State Fault Refusal := handleByte 0xB9#8 (plainItem 0xB9#8) s

/-- `RX_BA_PASS` (R138). -/
def execRxBAPass (s : State) : Host.Outcome State Fault Refusal := handleByte 0xBA#8 (plainItem 0xBA#8) s

/-- `RX_BB_PASS` (R138). -/
def execRxBBPass (s : State) : Host.Outcome State Fault Refusal := handleByte 0xBB#8 (plainItem 0xBB#8) s

/-- `RX_BC_PASS` (R138). -/
def execRxBCPass (s : State) : Host.Outcome State Fault Refusal := handleByte 0xBC#8 (plainItem 0xBC#8) s

/-- `RX_BD_PASS` (R138). -/
def execRxBDPass (s : State) : Host.Outcome State Fault Refusal := handleByte 0xBD#8 (plainItem 0xBD#8) s

/-- `RX_BE_PASS` (R138). -/
def execRxBEPass (s : State) : Host.Outcome State Fault Refusal := handleByte 0xBE#8 (plainItem 0xBE#8) s

/-- `RX_BF_PASS` (R138). -/
def execRxBFPass (s : State) : Host.Outcome State Fault Refusal := handleByte 0xBF#8 (plainItem 0xBF#8) s

/-- `RX_C0_PASS` (R138). -/
def execRxC0Pass (s : State) : Host.Outcome State Fault Refusal := handleByte 0xC0#8 (plainItem 0xC0#8) s

/-- `RX_C1_PASS` (R138). -/
def execRxC1Pass (s : State) : Host.Outcome State Fault Refusal := handleByte 0xC1#8 (plainItem 0xC1#8) s

/-- `RX_C2_PASS` (R138). -/
def execRxC2Pass (s : State) : Host.Outcome State Fault Refusal := handleByte 0xC2#8 (plainItem 0xC2#8) s

/-- `RX_C3_PASS` (R138; also sends `0x04` (R191)). -/
def execRxC3Pass (s : State) : Host.Outcome State Fault Refusal := handleByte 0xC3#8 (plainItem 0xC3#8) s

/-- `RX_C4_PASS` (R138). -/
def execRxC4Pass (s : State) : Host.Outcome State Fault Refusal := handleByte 0xC4#8 (plainItem 0xC4#8) s

/-- `RX_C5_PASS` (R138). -/
def execRxC5Pass (s : State) : Host.Outcome State Fault Refusal := handleByte 0xC5#8 (plainItem 0xC5#8) s

/-- `RX_C6_PASS` (R138). -/
def execRxC6Pass (s : State) : Host.Outcome State Fault Refusal := handleByte 0xC6#8 (plainItem 0xC6#8) s

/-- `RX_C7_PASS` (R138). -/
def execRxC7Pass (s : State) : Host.Outcome State Fault Refusal := handleByte 0xC7#8 (plainItem 0xC7#8) s

/-- `RX_C8_PASS` (R138). -/
def execRxC8Pass (s : State) : Host.Outcome State Fault Refusal := handleByte 0xC8#8 (plainItem 0xC8#8) s

/-- `RX_C9_PASS` (R138). -/
def execRxC9Pass (s : State) : Host.Outcome State Fault Refusal := handleByte 0xC9#8 (plainItem 0xC9#8) s

/-- `RX_CA_PASS` (R138). -/
def execRxCAPass (s : State) : Host.Outcome State Fault Refusal := handleByte 0xCA#8 (plainItem 0xCA#8) s

/-- `RX_CB_PASS` (R138). -/
def execRxCBPass (s : State) : Host.Outcome State Fault Refusal := handleByte 0xCB#8 (plainItem 0xCB#8) s

/-- `RX_CC_PASS` (R138). -/
def execRxCCPass (s : State) : Host.Outcome State Fault Refusal := handleByte 0xCC#8 (plainItem 0xCC#8) s

/-- `RX_CD_PASS` (R138). -/
def execRxCDPass (s : State) : Host.Outcome State Fault Refusal := handleByte 0xCD#8 (plainItem 0xCD#8) s

/-- `RX_CE_PASS` (R138). -/
def execRxCEPass (s : State) : Host.Outcome State Fault Refusal := handleByte 0xCE#8 (plainItem 0xCE#8) s

/-- `RX_CF_PASS` (R138). -/
def execRxCFPass (s : State) : Host.Outcome State Fault Refusal := handleByte 0xCF#8 (plainItem 0xCF#8) s

/-- `RX_D0_PASS` (R138). -/
def execRxD0Pass (s : State) : Host.Outcome State Fault Refusal := handleByte 0xD0#8 (plainItem 0xD0#8) s

/-- `RX_D1_PASS` (R138). -/
def execRxD1Pass (s : State) : Host.Outcome State Fault Refusal := handleByte 0xD1#8 (plainItem 0xD1#8) s

/-- `RX_D2_PASS` (R138). -/
def execRxD2Pass (s : State) : Host.Outcome State Fault Refusal := handleByte 0xD2#8 (plainItem 0xD2#8) s

/-- `RX_D3_PASS` (R138). -/
def execRxD3Pass (s : State) : Host.Outcome State Fault Refusal := handleByte 0xD3#8 (plainItem 0xD3#8) s

/-- `RX_D4_PASS` (R138). -/
def execRxD4Pass (s : State) : Host.Outcome State Fault Refusal := handleByte 0xD4#8 (plainItem 0xD4#8) s

/-- `RX_D5_PASS` (R138). -/
def execRxD5Pass (s : State) : Host.Outcome State Fault Refusal := handleByte 0xD5#8 (plainItem 0xD5#8) s

/-- `RX_D6_PASS` (R138). -/
def execRxD6Pass (s : State) : Host.Outcome State Fault Refusal := handleByte 0xD6#8 (plainItem 0xD6#8) s

/-- `RX_D7_PASS` (R138). -/
def execRxD7Pass (s : State) : Host.Outcome State Fault Refusal := handleByte 0xD7#8 (plainItem 0xD7#8) s

/-- `RX_D8_PASS` (R138). -/
def execRxD8Pass (s : State) : Host.Outcome State Fault Refusal := handleByte 0xD8#8 (plainItem 0xD8#8) s

/-- `RX_D9_PASS` (R138). -/
def execRxD9Pass (s : State) : Host.Outcome State Fault Refusal := handleByte 0xD9#8 (plainItem 0xD9#8) s

/-- `RX_DA_PASS` (R138). -/
def execRxDAPass (s : State) : Host.Outcome State Fault Refusal := handleByte 0xDA#8 (plainItem 0xDA#8) s

/-- `RX_DB_PASS` (R138). -/
def execRxDBPass (s : State) : Host.Outcome State Fault Refusal := handleByte 0xDB#8 (plainItem 0xDB#8) s

/-- `RX_DC_PASS` (R138). -/
def execRxDCPass (s : State) : Host.Outcome State Fault Refusal := handleByte 0xDC#8 (plainItem 0xDC#8) s

/-- `RX_DD_PASS` (R138). -/
def execRxDDPass (s : State) : Host.Outcome State Fault Refusal := handleByte 0xDD#8 (plainItem 0xDD#8) s

/-- `RX_DE_PASS` (R138). -/
def execRxDEPass (s : State) : Host.Outcome State Fault Refusal := handleByte 0xDE#8 (plainItem 0xDE#8) s

/-- `RX_DF_PASS` (R138). -/
def execRxDFPass (s : State) : Host.Outcome State Fault Refusal := handleByte 0xDF#8 (plainItem 0xDF#8) s

/-- `RX_E0_PASS` (R138). -/
def execRxE0Pass (s : State) : Host.Outcome State Fault Refusal := handleByte 0xE0#8 (plainItem 0xE0#8) s

/-- `RX_E1_PASS` (R138). -/
def execRxE1Pass (s : State) : Host.Outcome State Fault Refusal := handleByte 0xE1#8 (plainItem 0xE1#8) s

/-- `RX_E2_PASS` (R138). -/
def execRxE2Pass (s : State) : Host.Outcome State Fault Refusal := handleByte 0xE2#8 (plainItem 0xE2#8) s

/-- `RX_E3_PASS` (R138). -/
def execRxE3Pass (s : State) : Host.Outcome State Fault Refusal := handleByte 0xE3#8 (plainItem 0xE3#8) s

/-- `RX_E4_PASS` (R138). -/
def execRxE4Pass (s : State) : Host.Outcome State Fault Refusal := handleByte 0xE4#8 (plainItem 0xE4#8) s

/-- `RX_E5_PASS` (R138). -/
def execRxE5Pass (s : State) : Host.Outcome State Fault Refusal := handleByte 0xE5#8 (plainItem 0xE5#8) s

/-- `RX_E6_PASS` (R138). -/
def execRxE6Pass (s : State) : Host.Outcome State Fault Refusal := handleByte 0xE6#8 (plainItem 0xE6#8) s

/-- `RX_E7_PASS` (R138). -/
def execRxE7Pass (s : State) : Host.Outcome State Fault Refusal := handleByte 0xE7#8 (plainItem 0xE7#8) s

/-- `RX_E8_PASS` (R138). -/
def execRxE8Pass (s : State) : Host.Outcome State Fault Refusal := handleByte 0xE8#8 (plainItem 0xE8#8) s

/-- `RX_E9_PASS` (R138). -/
def execRxE9Pass (s : State) : Host.Outcome State Fault Refusal := handleByte 0xE9#8 (plainItem 0xE9#8) s

/-- `RX_EA_PASS` (R138). -/
def execRxEAPass (s : State) : Host.Outcome State Fault Refusal := handleByte 0xEA#8 (plainItem 0xEA#8) s

/-- `RX_EB_PASS` (R138). -/
def execRxEBPass (s : State) : Host.Outcome State Fault Refusal := handleByte 0xEB#8 (plainItem 0xEB#8) s

/-- `RX_EC_PASS` (R138). -/
def execRxECPass (s : State) : Host.Outcome State Fault Refusal := handleByte 0xEC#8 (plainItem 0xEC#8) s

/-- `RX_ED_PASS` (R138). -/
def execRxEDPass (s : State) : Host.Outcome State Fault Refusal := handleByte 0xED#8 (plainItem 0xED#8) s

/-- `RX_EE_PASS` (R138). -/
def execRxEEPass (s : State) : Host.Outcome State Fault Refusal := handleByte 0xEE#8 (plainItem 0xEE#8) s

/-- `RX_EF_PASS` (R138). -/
def execRxEFPass (s : State) : Host.Outcome State Fault Refusal := handleByte 0xEF#8 (plainItem 0xEF#8) s

/-- `RX_F0_PASS` (R138). -/
def execRxF0Pass (s : State) : Host.Outcome State Fault Refusal := handleByte 0xF0#8 (plainItem 0xF0#8) s

/-- `RX_F1_PASS` (R138). -/
def execRxF1Pass (s : State) : Host.Outcome State Fault Refusal := handleByte 0xF1#8 (plainItem 0xF1#8) s

/-- `RX_F2_PASS` (R138). -/
def execRxF2Pass (s : State) : Host.Outcome State Fault Refusal := handleByte 0xF2#8 (plainItem 0xF2#8) s

/-- `RX_F3_PASS` (R138). -/
def execRxF3Pass (s : State) : Host.Outcome State Fault Refusal := handleByte 0xF3#8 (plainItem 0xF3#8) s

/-- `RX_F4_PASS` (R138). -/
def execRxF4Pass (s : State) : Host.Outcome State Fault Refusal := handleByte 0xF4#8 (plainItem 0xF4#8) s

/-- `RX_F5_PASS` (R138). -/
def execRxF5Pass (s : State) : Host.Outcome State Fault Refusal := handleByte 0xF5#8 (plainItem 0xF5#8) s

/-- `RX_F6_PASS` (R138). -/
def execRxF6Pass (s : State) : Host.Outcome State Fault Refusal := handleByte 0xF6#8 (plainItem 0xF6#8) s

/-- `RX_F7_PASS` (R138). -/
def execRxF7Pass (s : State) : Host.Outcome State Fault Refusal := handleByte 0xF7#8 (plainItem 0xF7#8) s

/-- `RX_F8_PASS` (R138). -/
def execRxF8Pass (s : State) : Host.Outcome State Fault Refusal := handleByte 0xF8#8 (plainItem 0xF8#8) s

/-- `RX_F9_PASS` (R138). -/
def execRxF9Pass (s : State) : Host.Outcome State Fault Refusal := handleByte 0xF9#8 (plainItem 0xF9#8) s

/-- `RX_FA_PASS` (R138). -/
def execRxFAPass (s : State) : Host.Outcome State Fault Refusal := handleByte 0xFA#8 (plainItem 0xFA#8) s

/-- `RX_FB_PASS` (R138). -/
def execRxFBPass (s : State) : Host.Outcome State Fault Refusal := handleByte 0xFB#8 (plainItem 0xFB#8) s

/-- `RX_FC_PASS` (R138). -/
def execRxFCPass (s : State) : Host.Outcome State Fault Refusal := handleByte 0xFC#8 (plainItem 0xFC#8) s

/-- `RX_FD_PASS` (R138). -/
def execRxFDPass (s : State) : Host.Outcome State Fault Refusal := handleByte 0xFD#8 (plainItem 0xFD#8) s

/-- `RX_FE_PASS` (R138). -/
def execRxFEPass (s : State) : Host.Outcome State Fault Refusal := handleByte 0xFE#8 (plainItem 0xFE#8) s

/-- `RX_FF_PASS` (R138). -/
def execRxFFPass (s : State) : Host.Outcome State Fault Refusal := handleByte 0xFF#8 (plainItem 0xFF#8) s

end Sys2Proof.Machine
end

