-- ==== Sys2Proof/Machine/ShiftAlpha.lean ====
section
/-! DEFINITION. The meanings of class 5, rule 5, shifted letters (41_scan_translator.md R137): the shift marker, then the byte plus `0x20`.
Each is the handling of one byte after it was taken from the receive queue (R111): the appends of its emission, then the
control step (43_control_signals.md R190). -/

namespace Sys2Proof.Machine

/-- `RX_41_SHIFT_ALPHA` (R137). -/
def execRx41ShiftAlpha (s : State) : Host.Outcome State Fault Refusal := handleByte 0x41#8 (shiftItem 0x41#8 0x20) s

/-- `RX_42_SHIFT_ALPHA` (R137). -/
def execRx42ShiftAlpha (s : State) : Host.Outcome State Fault Refusal := handleByte 0x42#8 (shiftItem 0x42#8 0x20) s

/-- `RX_43_SHIFT_ALPHA` (R137). -/
def execRx43ShiftAlpha (s : State) : Host.Outcome State Fault Refusal := handleByte 0x43#8 (shiftItem 0x43#8 0x20) s

/-- `RX_44_SHIFT_ALPHA` (R137). -/
def execRx44ShiftAlpha (s : State) : Host.Outcome State Fault Refusal := handleByte 0x44#8 (shiftItem 0x44#8 0x20) s

/-- `RX_45_SHIFT_ALPHA` (R137). -/
def execRx45ShiftAlpha (s : State) : Host.Outcome State Fault Refusal := handleByte 0x45#8 (shiftItem 0x45#8 0x20) s

/-- `RX_46_SHIFT_ALPHA` (R137). -/
def execRx46ShiftAlpha (s : State) : Host.Outcome State Fault Refusal := handleByte 0x46#8 (shiftItem 0x46#8 0x20) s

/-- `RX_47_SHIFT_ALPHA` (R137). -/
def execRx47ShiftAlpha (s : State) : Host.Outcome State Fault Refusal := handleByte 0x47#8 (shiftItem 0x47#8 0x20) s

/-- `RX_48_SHIFT_ALPHA` (R137). -/
def execRx48ShiftAlpha (s : State) : Host.Outcome State Fault Refusal := handleByte 0x48#8 (shiftItem 0x48#8 0x20) s

/-- `RX_49_SHIFT_ALPHA` (R137). -/
def execRx49ShiftAlpha (s : State) : Host.Outcome State Fault Refusal := handleByte 0x49#8 (shiftItem 0x49#8 0x20) s

/-- `RX_4A_SHIFT_ALPHA` (R137). -/
def execRx4AShiftAlpha (s : State) : Host.Outcome State Fault Refusal := handleByte 0x4A#8 (shiftItem 0x4A#8 0x20) s

/-- `RX_4B_SHIFT_ALPHA` (R137). -/
def execRx4BShiftAlpha (s : State) : Host.Outcome State Fault Refusal := handleByte 0x4B#8 (shiftItem 0x4B#8 0x20) s

/-- `RX_4C_SHIFT_ALPHA` (R137). -/
def execRx4CShiftAlpha (s : State) : Host.Outcome State Fault Refusal := handleByte 0x4C#8 (shiftItem 0x4C#8 0x20) s

/-- `RX_4D_SHIFT_ALPHA` (R137). -/
def execRx4DShiftAlpha (s : State) : Host.Outcome State Fault Refusal := handleByte 0x4D#8 (shiftItem 0x4D#8 0x20) s

/-- `RX_4E_SHIFT_ALPHA` (R137). -/
def execRx4EShiftAlpha (s : State) : Host.Outcome State Fault Refusal := handleByte 0x4E#8 (shiftItem 0x4E#8 0x20) s

/-- `RX_4F_SHIFT_ALPHA` (R137). -/
def execRx4FShiftAlpha (s : State) : Host.Outcome State Fault Refusal := handleByte 0x4F#8 (shiftItem 0x4F#8 0x20) s

/-- `RX_50_SHIFT_ALPHA` (R137). -/
def execRx50ShiftAlpha (s : State) : Host.Outcome State Fault Refusal := handleByte 0x50#8 (shiftItem 0x50#8 0x20) s

/-- `RX_51_SHIFT_ALPHA` (R137). -/
def execRx51ShiftAlpha (s : State) : Host.Outcome State Fault Refusal := handleByte 0x51#8 (shiftItem 0x51#8 0x20) s

/-- `RX_52_SHIFT_ALPHA` (R137). -/
def execRx52ShiftAlpha (s : State) : Host.Outcome State Fault Refusal := handleByte 0x52#8 (shiftItem 0x52#8 0x20) s

/-- `RX_53_SHIFT_ALPHA` (R137). -/
def execRx53ShiftAlpha (s : State) : Host.Outcome State Fault Refusal := handleByte 0x53#8 (shiftItem 0x53#8 0x20) s

/-- `RX_54_SHIFT_ALPHA` (R137). -/
def execRx54ShiftAlpha (s : State) : Host.Outcome State Fault Refusal := handleByte 0x54#8 (shiftItem 0x54#8 0x20) s

/-- `RX_55_SHIFT_ALPHA` (R137). -/
def execRx55ShiftAlpha (s : State) : Host.Outcome State Fault Refusal := handleByte 0x55#8 (shiftItem 0x55#8 0x20) s

/-- `RX_56_SHIFT_ALPHA` (R137). -/
def execRx56ShiftAlpha (s : State) : Host.Outcome State Fault Refusal := handleByte 0x56#8 (shiftItem 0x56#8 0x20) s

/-- `RX_57_SHIFT_ALPHA` (R137). -/
def execRx57ShiftAlpha (s : State) : Host.Outcome State Fault Refusal := handleByte 0x57#8 (shiftItem 0x57#8 0x20) s

/-- `RX_58_SHIFT_ALPHA` (R137). -/
def execRx58ShiftAlpha (s : State) : Host.Outcome State Fault Refusal := handleByte 0x58#8 (shiftItem 0x58#8 0x20) s

/-- `RX_59_SHIFT_ALPHA` (R137). -/
def execRx59ShiftAlpha (s : State) : Host.Outcome State Fault Refusal := handleByte 0x59#8 (shiftItem 0x59#8 0x20) s

/-- `RX_5A_SHIFT_ALPHA` (R137). -/
def execRx5AShiftAlpha (s : State) : Host.Outcome State Fault Refusal := handleByte 0x5A#8 (shiftItem 0x5A#8 0x20) s

end Sys2Proof.Machine
end

