-- ==== Sys2Proof/Machine/ShiftTab.lean ====
section
/-! DEFINITION. The meanings of class 3, rule 3, the explicit shift-offset table (41_scan_translator.md R114,
one rule for each entry, R115 to R135): the shift marker, then the byte plus the entry's signed offset.
Each is the handling of one byte after it was taken from the receive queue (R111): the appends of its emission, then the
control step (43_control_signals.md R190). -/

namespace Sys2Proof.Machine

/-- `RX_21_SHIFT_TAB` (R115). -/
def execRx21ShiftTab (s : State) : Host.Outcome State Fault Refusal := handleByte 0x21#8 (shiftItem 0x21#8 0x10) s

/-- `RX_22_SHIFT_TAB` (R125). -/
def execRx22ShiftTab (s : State) : Host.Outcome State Fault Refusal := handleByte 0x22#8 (shiftItem 0x22#8 0x05) s

/-- `RX_23_SHIFT_TAB` (R116). -/
def execRx23ShiftTab (s : State) : Host.Outcome State Fault Refusal := handleByte 0x23#8 (shiftItem 0x23#8 0x10) s

/-- `RX_24_SHIFT_TAB` (R117). -/
def execRx24ShiftTab (s : State) : Host.Outcome State Fault Refusal := handleByte 0x24#8 (shiftItem 0x24#8 0x10) s

/-- `RX_25_SHIFT_TAB` (R118). -/
def execRx25ShiftTab (s : State) : Host.Outcome State Fault Refusal := handleByte 0x25#8 (shiftItem 0x25#8 0x10) s

/-- `RX_26_SHIFT_TAB` (R119). -/
def execRx26ShiftTab (s : State) : Host.Outcome State Fault Refusal := handleByte 0x26#8 (shiftItem 0x26#8 0x11) s

/-- `RX_28_SHIFT_TAB` (R120). -/
def execRx28ShiftTab (s : State) : Host.Outcome State Fault Refusal := handleByte 0x28#8 (shiftItem 0x28#8 0x11) s

/-- `RX_29_SHIFT_TAB` (R121). -/
def execRx29ShiftTab (s : State) : Host.Outcome State Fault Refusal := handleByte 0x29#8 (shiftItem 0x29#8 0x07) s

/-- `RX_2A_SHIFT_TAB` (R123). -/
def execRx2AShiftTab (s : State) : Host.Outcome State Fault Refusal := handleByte 0x2A#8 (shiftItem 0x2A#8 0x0E) s

/-- `RX_2B_SHIFT_TAB` (R124). -/
def execRx2BShiftTab (s : State) : Host.Outcome State Fault Refusal := handleByte 0x2B#8 (shiftItem 0x2B#8 0x12) s

/-- `RX_3A_SHIFT_TAB` (R126). -/
def execRx3AShiftTab (s : State) : Host.Outcome State Fault Refusal := handleByte 0x3A#8 (shiftItem 0x3A#8 0x01) s

/-- `RX_3C_SHIFT_TAB` (R127). -/
def execRx3CShiftTab (s : State) : Host.Outcome State Fault Refusal := handleByte 0x3C#8 (shiftItem 0x3C#8 (-0x10)) s

/-- `RX_3E_SHIFT_TAB` (R128). -/
def execRx3EShiftTab (s : State) : Host.Outcome State Fault Refusal := handleByte 0x3E#8 (shiftItem 0x3E#8 (-0x10)) s

/-- `RX_3F_SHIFT_TAB` (R129). -/
def execRx3FShiftTab (s : State) : Host.Outcome State Fault Refusal := handleByte 0x3F#8 (shiftItem 0x3F#8 (-0x10)) s

/-- `RX_40_SHIFT_TAB` (R122). -/
def execRx40ShiftTab (s : State) : Host.Outcome State Fault Refusal := handleByte 0x40#8 (shiftItem 0x40#8 (-0x0E)) s

/-- `RX_5E_SHIFT_TAB` (R130). -/
def execRx5EShiftTab (s : State) : Host.Outcome State Fault Refusal := handleByte 0x5E#8 (shiftItem 0x5E#8 (-0x28)) s

/-- `RX_5F_SHIFT_TAB` (R131). -/
def execRx5FShiftTab (s : State) : Host.Outcome State Fault Refusal := handleByte 0x5F#8 (shiftItem 0x5F#8 (-0x32)) s

/-- `RX_7B_SHIFT_TAB` (R132). -/
def execRx7BShiftTab (s : State) : Host.Outcome State Fault Refusal := handleByte 0x7B#8 (shiftItem 0x7B#8 (-0x20)) s

/-- `RX_7C_SHIFT_TAB` (R133). -/
def execRx7CShiftTab (s : State) : Host.Outcome State Fault Refusal := handleByte 0x7C#8 (shiftItem 0x7C#8 (-0x20)) s

/-- `RX_7D_SHIFT_TAB` (R134). -/
def execRx7DShiftTab (s : State) : Host.Outcome State Fault Refusal := handleByte 0x7D#8 (shiftItem 0x7D#8 (-0x20)) s

/-- `RX_7E_SHIFT_TAB` (R135). -/
def execRx7EShiftTab (s : State) : Host.Outcome State Fault Refusal := handleByte 0x7E#8 (shiftItem 0x7E#8 (-0x1E)) s

end Sys2Proof.Machine
end

