-- ==== Sys2Proof/Machine/Dispatch.lean ====
section
/-! DEFINITION. One arm for each row of spec/opcode_table.json, each a direct call of its meaning. -/

namespace Sys2Proof.Machine

def exec (i : Instr) (s : State) : Host.Outcome State Fault Refusal :=
  match i with
  | .rx00CtrlLow => Sys2Proof.Machine.execRx00CtrlLow s
  | .rx01CtrlRange => Sys2Proof.Machine.execRx01CtrlRange s
  | .rx02CtrlRange => Sys2Proof.Machine.execRx02CtrlRange s
  | .rx03CtrlRange => Sys2Proof.Machine.execRx03CtrlRange s
  | .rx04CtrlRange => Sys2Proof.Machine.execRx04CtrlRange s
  | .rx05CtrlRange => Sys2Proof.Machine.execRx05CtrlRange s
  | .rx06CtrlRange => Sys2Proof.Machine.execRx06CtrlRange s
  | .rx07CtrlRange => Sys2Proof.Machine.execRx07CtrlRange s
  | .rx08Exc => Sys2Proof.Machine.execRx08Exc s
  | .rx09Exc => Sys2Proof.Machine.execRx09Exc s
  | .rx0ACtrlRange => Sys2Proof.Machine.execRx0ACtrlRange s
  | .rx0BCtrlRange => Sys2Proof.Machine.execRx0BCtrlRange s
  | .rx0CCtrlRange => Sys2Proof.Machine.execRx0CCtrlRange s
  | .rx0DExc => Sys2Proof.Machine.execRx0DExc s
  | .rx0ECtrlRange => Sys2Proof.Machine.execRx0ECtrlRange s
  | .rx0FCtrlRange => Sys2Proof.Machine.execRx0FCtrlRange s
  | .rx10CtrlRange => Sys2Proof.Machine.execRx10CtrlRange s
  | .rx11CtrlRange => Sys2Proof.Machine.execRx11CtrlRange s
  | .rx12CtrlRange => Sys2Proof.Machine.execRx12CtrlRange s
  | .rx13CtrlRange => Sys2Proof.Machine.execRx13CtrlRange s
  | .rx14CtrlRange => Sys2Proof.Machine.execRx14CtrlRange s
  | .rx15CtrlRange => Sys2Proof.Machine.execRx15CtrlRange s
  | .rx16CtrlRange => Sys2Proof.Machine.execRx16CtrlRange s
  | .rx17CtrlRange => Sys2Proof.Machine.execRx17CtrlRange s
  | .rx18CtrlRange => Sys2Proof.Machine.execRx18CtrlRange s
  | .rx19CtrlRange => Sys2Proof.Machine.execRx19CtrlRange s
  | .rx1ACtrlRange => Sys2Proof.Machine.execRx1ACtrlRange s
  | .rx1BExc => Sys2Proof.Machine.execRx1BExc s
  | .rx1CCtrlLow => Sys2Proof.Machine.execRx1CCtrlLow s
  | .rx1DCtrlLow => Sys2Proof.Machine.execRx1DCtrlLow s
  | .rx1ECtrlLow => Sys2Proof.Machine.execRx1ECtrlLow s
  | .rx1FCtrlLow => Sys2Proof.Machine.execRx1FCtrlLow s
  | .rx20Pass => Sys2Proof.Machine.execRx20Pass s
  | .rx21ShiftTab => Sys2Proof.Machine.execRx21ShiftTab s
  | .rx22ShiftTab => Sys2Proof.Machine.execRx22ShiftTab s
  | .rx23ShiftTab => Sys2Proof.Machine.execRx23ShiftTab s
  | .rx24ShiftTab => Sys2Proof.Machine.execRx24ShiftTab s
  | .rx25ShiftTab => Sys2Proof.Machine.execRx25ShiftTab s
  | .rx26ShiftTab => Sys2Proof.Machine.execRx26ShiftTab s
  | .rx27Pass => Sys2Proof.Machine.execRx27Pass s
  | .rx28ShiftTab => Sys2Proof.Machine.execRx28ShiftTab s
  | .rx29ShiftTab => Sys2Proof.Machine.execRx29ShiftTab s
  | .rx2AShiftTab => Sys2Proof.Machine.execRx2AShiftTab s
  | .rx2BShiftTab => Sys2Proof.Machine.execRx2BShiftTab s
  | .rx2CPass => Sys2Proof.Machine.execRx2CPass s
  | .rx2DPass => Sys2Proof.Machine.execRx2DPass s
  | .rx2EPass => Sys2Proof.Machine.execRx2EPass s
  | .rx2FPass => Sys2Proof.Machine.execRx2FPass s
  | .rx30Pass => Sys2Proof.Machine.execRx30Pass s
  | .rx31Pass => Sys2Proof.Machine.execRx31Pass s
  | .rx32Pass => Sys2Proof.Machine.execRx32Pass s
  | .rx33Pass => Sys2Proof.Machine.execRx33Pass s
  | .rx34Pass => Sys2Proof.Machine.execRx34Pass s
  | .rx35Pass => Sys2Proof.Machine.execRx35Pass s
  | .rx36Pass => Sys2Proof.Machine.execRx36Pass s
  | .rx37Pass => Sys2Proof.Machine.execRx37Pass s
  | .rx38Pass => Sys2Proof.Machine.execRx38Pass s
  | .rx39Pass => Sys2Proof.Machine.execRx39Pass s
  | .rx3AShiftTab => Sys2Proof.Machine.execRx3AShiftTab s
  | .rx3BPass => Sys2Proof.Machine.execRx3BPass s
  | .rx3CShiftTab => Sys2Proof.Machine.execRx3CShiftTab s
  | .rx3DPass => Sys2Proof.Machine.execRx3DPass s
  | .rx3EShiftTab => Sys2Proof.Machine.execRx3EShiftTab s
  | .rx3FShiftTab => Sys2Proof.Machine.execRx3FShiftTab s
  | .rx40ShiftTab => Sys2Proof.Machine.execRx40ShiftTab s
  | .rx41ShiftAlpha => Sys2Proof.Machine.execRx41ShiftAlpha s
  | .rx42ShiftAlpha => Sys2Proof.Machine.execRx42ShiftAlpha s
  | .rx43ShiftAlpha => Sys2Proof.Machine.execRx43ShiftAlpha s
  | .rx44ShiftAlpha => Sys2Proof.Machine.execRx44ShiftAlpha s
  | .rx45ShiftAlpha => Sys2Proof.Machine.execRx45ShiftAlpha s
  | .rx46ShiftAlpha => Sys2Proof.Machine.execRx46ShiftAlpha s
  | .rx47ShiftAlpha => Sys2Proof.Machine.execRx47ShiftAlpha s
  | .rx48ShiftAlpha => Sys2Proof.Machine.execRx48ShiftAlpha s
  | .rx49ShiftAlpha => Sys2Proof.Machine.execRx49ShiftAlpha s
  | .rx4AShiftAlpha => Sys2Proof.Machine.execRx4AShiftAlpha s
  | .rx4BShiftAlpha => Sys2Proof.Machine.execRx4BShiftAlpha s
  | .rx4CShiftAlpha => Sys2Proof.Machine.execRx4CShiftAlpha s
  | .rx4DShiftAlpha => Sys2Proof.Machine.execRx4DShiftAlpha s
  | .rx4EShiftAlpha => Sys2Proof.Machine.execRx4EShiftAlpha s
  | .rx4FShiftAlpha => Sys2Proof.Machine.execRx4FShiftAlpha s
  | .rx50ShiftAlpha => Sys2Proof.Machine.execRx50ShiftAlpha s
  | .rx51ShiftAlpha => Sys2Proof.Machine.execRx51ShiftAlpha s
  | .rx52ShiftAlpha => Sys2Proof.Machine.execRx52ShiftAlpha s
  | .rx53ShiftAlpha => Sys2Proof.Machine.execRx53ShiftAlpha s
  | .rx54ShiftAlpha => Sys2Proof.Machine.execRx54ShiftAlpha s
  | .rx55ShiftAlpha => Sys2Proof.Machine.execRx55ShiftAlpha s
  | .rx56ShiftAlpha => Sys2Proof.Machine.execRx56ShiftAlpha s
  | .rx57ShiftAlpha => Sys2Proof.Machine.execRx57ShiftAlpha s
  | .rx58ShiftAlpha => Sys2Proof.Machine.execRx58ShiftAlpha s
  | .rx59ShiftAlpha => Sys2Proof.Machine.execRx59ShiftAlpha s
  | .rx5AShiftAlpha => Sys2Proof.Machine.execRx5AShiftAlpha s
  | .rx5BPass => Sys2Proof.Machine.execRx5BPass s
  | .rx5CPass => Sys2Proof.Machine.execRx5CPass s
  | .rx5DPass => Sys2Proof.Machine.execRx5DPass s
  | .rx5EShiftTab => Sys2Proof.Machine.execRx5EShiftTab s
  | .rx5FShiftTab => Sys2Proof.Machine.execRx5FShiftTab s
  | .rx60Pass => Sys2Proof.Machine.execRx60Pass s
  | .rx61Pass => Sys2Proof.Machine.execRx61Pass s
  | .rx62Pass => Sys2Proof.Machine.execRx62Pass s
  | .rx63Pass => Sys2Proof.Machine.execRx63Pass s
  | .rx64Pass => Sys2Proof.Machine.execRx64Pass s
  | .rx65Pass => Sys2Proof.Machine.execRx65Pass s
  | .rx66Pass => Sys2Proof.Machine.execRx66Pass s
  | .rx67Pass => Sys2Proof.Machine.execRx67Pass s
  | .rx68Pass => Sys2Proof.Machine.execRx68Pass s
  | .rx69Pass => Sys2Proof.Machine.execRx69Pass s
  | .rx6APass => Sys2Proof.Machine.execRx6APass s
  | .rx6BPass => Sys2Proof.Machine.execRx6BPass s
  | .rx6CPass => Sys2Proof.Machine.execRx6CPass s
  | .rx6DPass => Sys2Proof.Machine.execRx6DPass s
  | .rx6EPass => Sys2Proof.Machine.execRx6EPass s
  | .rx6FPass => Sys2Proof.Machine.execRx6FPass s
  | .rx70Pass => Sys2Proof.Machine.execRx70Pass s
  | .rx71Pass => Sys2Proof.Machine.execRx71Pass s
  | .rx72Pass => Sys2Proof.Machine.execRx72Pass s
  | .rx73Pass => Sys2Proof.Machine.execRx73Pass s
  | .rx74Pass => Sys2Proof.Machine.execRx74Pass s
  | .rx75Pass => Sys2Proof.Machine.execRx75Pass s
  | .rx76Pass => Sys2Proof.Machine.execRx76Pass s
  | .rx77Pass => Sys2Proof.Machine.execRx77Pass s
  | .rx78Pass => Sys2Proof.Machine.execRx78Pass s
  | .rx79Pass => Sys2Proof.Machine.execRx79Pass s
  | .rx7APass => Sys2Proof.Machine.execRx7APass s
  | .rx7BShiftTab => Sys2Proof.Machine.execRx7BShiftTab s
  | .rx7CShiftTab => Sys2Proof.Machine.execRx7CShiftTab s
  | .rx7DShiftTab => Sys2Proof.Machine.execRx7DShiftTab s
  | .rx7EShiftTab => Sys2Proof.Machine.execRx7EShiftTab s
  | .rx7FPass => Sys2Proof.Machine.execRx7FPass s
  | .rx80Pass => Sys2Proof.Machine.execRx80Pass s
  | .rx81Pass => Sys2Proof.Machine.execRx81Pass s
  | .rx82Pass => Sys2Proof.Machine.execRx82Pass s
  | .rx83Pass => Sys2Proof.Machine.execRx83Pass s
  | .rx84Pass => Sys2Proof.Machine.execRx84Pass s
  | .rx85Pass => Sys2Proof.Machine.execRx85Pass s
  | .rx86Pass => Sys2Proof.Machine.execRx86Pass s
  | .rx87Pass => Sys2Proof.Machine.execRx87Pass s
  | .rx88Pass => Sys2Proof.Machine.execRx88Pass s
  | .rx89Pass => Sys2Proof.Machine.execRx89Pass s
  | .rx8APass => Sys2Proof.Machine.execRx8APass s
  | .rx8BPass => Sys2Proof.Machine.execRx8BPass s
  | .rx8CPass => Sys2Proof.Machine.execRx8CPass s
  | .rx8DPass => Sys2Proof.Machine.execRx8DPass s
  | .rx8EPass => Sys2Proof.Machine.execRx8EPass s
  | .rx8FPass => Sys2Proof.Machine.execRx8FPass s
  | .rx90Pass => Sys2Proof.Machine.execRx90Pass s
  | .rx91Pass => Sys2Proof.Machine.execRx91Pass s
  | .rx92Pass => Sys2Proof.Machine.execRx92Pass s
  | .rx93Pass => Sys2Proof.Machine.execRx93Pass s
  | .rx94Pass => Sys2Proof.Machine.execRx94Pass s
  | .rx95Pass => Sys2Proof.Machine.execRx95Pass s
  | .rx96Pass => Sys2Proof.Machine.execRx96Pass s
  | .rx97Pass => Sys2Proof.Machine.execRx97Pass s
  | .rx98Pass => Sys2Proof.Machine.execRx98Pass s
  | .rx99Pass => Sys2Proof.Machine.execRx99Pass s
  | .rx9APass => Sys2Proof.Machine.execRx9APass s
  | .rx9BPass => Sys2Proof.Machine.execRx9BPass s
  | .rx9CPass => Sys2Proof.Machine.execRx9CPass s
  | .rx9DPass => Sys2Proof.Machine.execRx9DPass s
  | .rx9EPass => Sys2Proof.Machine.execRx9EPass s
  | .rx9FPass => Sys2Proof.Machine.execRx9FPass s
  | .rxA0Pass => Sys2Proof.Machine.execRxA0Pass s
  | .rxA1Pass => Sys2Proof.Machine.execRxA1Pass s
  | .rxA2Pass => Sys2Proof.Machine.execRxA2Pass s
  | .rxA3Pass => Sys2Proof.Machine.execRxA3Pass s
  | .rxA4Pass => Sys2Proof.Machine.execRxA4Pass s
  | .rxA5Pass => Sys2Proof.Machine.execRxA5Pass s
  | .rxA6Pass => Sys2Proof.Machine.execRxA6Pass s
  | .rxA7Pass => Sys2Proof.Machine.execRxA7Pass s
  | .rxA8Pass => Sys2Proof.Machine.execRxA8Pass s
  | .rxA9Pass => Sys2Proof.Machine.execRxA9Pass s
  | .rxAAPass => Sys2Proof.Machine.execRxAAPass s
  | .rxABPass => Sys2Proof.Machine.execRxABPass s
  | .rxACPass => Sys2Proof.Machine.execRxACPass s
  | .rxADPass => Sys2Proof.Machine.execRxADPass s
  | .rxAEPass => Sys2Proof.Machine.execRxAEPass s
  | .rxAFPass => Sys2Proof.Machine.execRxAFPass s
  | .rxB0Pass => Sys2Proof.Machine.execRxB0Pass s
  | .rxB1Pass => Sys2Proof.Machine.execRxB1Pass s
  | .rxB2Pass => Sys2Proof.Machine.execRxB2Pass s
  | .rxB3Pass => Sys2Proof.Machine.execRxB3Pass s
  | .rxB4Pass => Sys2Proof.Machine.execRxB4Pass s
  | .rxB5Pass => Sys2Proof.Machine.execRxB5Pass s
  | .rxB6Pass => Sys2Proof.Machine.execRxB6Pass s
  | .rxB7Pass => Sys2Proof.Machine.execRxB7Pass s
  | .rxB8Pass => Sys2Proof.Machine.execRxB8Pass s
  | .rxB9Pass => Sys2Proof.Machine.execRxB9Pass s
  | .rxBAPass => Sys2Proof.Machine.execRxBAPass s
  | .rxBBPass => Sys2Proof.Machine.execRxBBPass s
  | .rxBCPass => Sys2Proof.Machine.execRxBCPass s
  | .rxBDPass => Sys2Proof.Machine.execRxBDPass s
  | .rxBEPass => Sys2Proof.Machine.execRxBEPass s
  | .rxBFPass => Sys2Proof.Machine.execRxBFPass s
  | .rxC0Pass => Sys2Proof.Machine.execRxC0Pass s
  | .rxC1Pass => Sys2Proof.Machine.execRxC1Pass s
  | .rxC2Pass => Sys2Proof.Machine.execRxC2Pass s
  | .rxC3Pass => Sys2Proof.Machine.execRxC3Pass s
  | .rxC4Pass => Sys2Proof.Machine.execRxC4Pass s
  | .rxC5Pass => Sys2Proof.Machine.execRxC5Pass s
  | .rxC6Pass => Sys2Proof.Machine.execRxC6Pass s
  | .rxC7Pass => Sys2Proof.Machine.execRxC7Pass s
  | .rxC8Pass => Sys2Proof.Machine.execRxC8Pass s
  | .rxC9Pass => Sys2Proof.Machine.execRxC9Pass s
  | .rxCAPass => Sys2Proof.Machine.execRxCAPass s
  | .rxCBPass => Sys2Proof.Machine.execRxCBPass s
  | .rxCCPass => Sys2Proof.Machine.execRxCCPass s
  | .rxCDPass => Sys2Proof.Machine.execRxCDPass s
  | .rxCEPass => Sys2Proof.Machine.execRxCEPass s
  | .rxCFPass => Sys2Proof.Machine.execRxCFPass s
  | .rxD0Pass => Sys2Proof.Machine.execRxD0Pass s
  | .rxD1Pass => Sys2Proof.Machine.execRxD1Pass s
  | .rxD2Pass => Sys2Proof.Machine.execRxD2Pass s
  | .rxD3Pass => Sys2Proof.Machine.execRxD3Pass s
  | .rxD4Pass => Sys2Proof.Machine.execRxD4Pass s
  | .rxD5Pass => Sys2Proof.Machine.execRxD5Pass s
  | .rxD6Pass => Sys2Proof.Machine.execRxD6Pass s
  | .rxD7Pass => Sys2Proof.Machine.execRxD7Pass s
  | .rxD8Pass => Sys2Proof.Machine.execRxD8Pass s
  | .rxD9Pass => Sys2Proof.Machine.execRxD9Pass s
  | .rxDAPass => Sys2Proof.Machine.execRxDAPass s
  | .rxDBPass => Sys2Proof.Machine.execRxDBPass s
  | .rxDCPass => Sys2Proof.Machine.execRxDCPass s
  | .rxDDPass => Sys2Proof.Machine.execRxDDPass s
  | .rxDEPass => Sys2Proof.Machine.execRxDEPass s
  | .rxDFPass => Sys2Proof.Machine.execRxDFPass s
  | .rxE0Pass => Sys2Proof.Machine.execRxE0Pass s
  | .rxE1Pass => Sys2Proof.Machine.execRxE1Pass s
  | .rxE2Pass => Sys2Proof.Machine.execRxE2Pass s
  | .rxE3Pass => Sys2Proof.Machine.execRxE3Pass s
  | .rxE4Pass => Sys2Proof.Machine.execRxE4Pass s
  | .rxE5Pass => Sys2Proof.Machine.execRxE5Pass s
  | .rxE6Pass => Sys2Proof.Machine.execRxE6Pass s
  | .rxE7Pass => Sys2Proof.Machine.execRxE7Pass s
  | .rxE8Pass => Sys2Proof.Machine.execRxE8Pass s
  | .rxE9Pass => Sys2Proof.Machine.execRxE9Pass s
  | .rxEAPass => Sys2Proof.Machine.execRxEAPass s
  | .rxEBPass => Sys2Proof.Machine.execRxEBPass s
  | .rxECPass => Sys2Proof.Machine.execRxECPass s
  | .rxEDPass => Sys2Proof.Machine.execRxEDPass s
  | .rxEEPass => Sys2Proof.Machine.execRxEEPass s
  | .rxEFPass => Sys2Proof.Machine.execRxEFPass s
  | .rxF0Pass => Sys2Proof.Machine.execRxF0Pass s
  | .rxF1Pass => Sys2Proof.Machine.execRxF1Pass s
  | .rxF2Pass => Sys2Proof.Machine.execRxF2Pass s
  | .rxF3Pass => Sys2Proof.Machine.execRxF3Pass s
  | .rxF4Pass => Sys2Proof.Machine.execRxF4Pass s
  | .rxF5Pass => Sys2Proof.Machine.execRxF5Pass s
  | .rxF6Pass => Sys2Proof.Machine.execRxF6Pass s
  | .rxF7Pass => Sys2Proof.Machine.execRxF7Pass s
  | .rxF8Pass => Sys2Proof.Machine.execRxF8Pass s
  | .rxF9Pass => Sys2Proof.Machine.execRxF9Pass s
  | .rxFAPass => Sys2Proof.Machine.execRxFAPass s
  | .rxFBPass => Sys2Proof.Machine.execRxFBPass s
  | .rxFCPass => Sys2Proof.Machine.execRxFCPass s
  | .rxFDPass => Sys2Proof.Machine.execRxFDPass s
  | .rxFEPass => Sys2Proof.Machine.execRxFEPass s
  | .rxFFPass => Sys2Proof.Machine.execRxFFPass s

end Sys2Proof.Machine
end

