-- ==== Sys2Proof/Machine/Perform.lean ====
section
/-! DEFINITION. One operation of one agent as an outcome of the machine (00_scope.md R4, R5). -/

namespace Sys2Proof.Machine

/-- `TRANSLATE`: take the oldest received byte and run the row it selects (41_scan_translator.md R111). While `rx_q` is
empty it is not enabled and its agent waits: the turn passes and nothing changes (00_scope.md R12, assumption 4). -/
def translateOldest (s : State) : Host.Outcome State Fault Refusal :=
  match enterHandler s with
  | none => .next s
  | some (b, s') => exec (decodeByte b) s'

/-- Whether an operation is enabled: `TRANSLATE` needs a received byte, `TXDONE` a pending outbound byte, the others
nothing (R5; 20_memory.md R62). -/
def enabled (op : Op) (s : State) : Bool :=
  match op with
  | .translate => !s.rxQ.isEmpty
  | .txDone => s.txHold.isSome
  | _ => true

/-- Run one operation. One that is not enabled has no step: its agent waits and the turn passes (R12, assumption 4). -/
def perform (op : Op) (s : State) : Host.Outcome State Fault Refusal :=
  match op with
  | .rx b => .next (rx b s)
  | .translate => translateOldest s
  | .take => take s
  | .peek => peek s
  | .txDone => .next ((txDone s).getD s)
  | .reset => .next (resetBlock s)

/-- The byte a table word gives the link: its low `nbits` bits, read as one byte (30_encoding.md R70). -/
def fetchByte (nbits w : Nat) : Byte := BitVec.ofNat 8 (w % 2 ^ nbits)

end Sys2Proof.Machine
end

