-- ==== Sys2Proof/Machine/Step.lean ====
section
/-! DEFINITION. One step of the machine: the next operation that is chosen, as one atomic step (20_memory.md R55, R60;
60_exceptions.md R237). -/

namespace Sys2Proof.Machine

/-- One step: choose the next operation and perform it. -/
def step (s : State) : Host.Outcome State Fault Refusal := perform (nextOp s) (advance s)

/-- The byte stands at the head of `rx_q`, in the place of the byte there, and `TRANSLATE` is the operation chosen next, so
that the very next step handles exactly that byte. Assumption 9. -/
def State.withFetchWord (s : State) (nbits w : Nat) : State :=
  { s with rxQ := fetchByte nbits w :: s.rxQ.tail, agenda := .translate :: s.agenda }

end Sys2Proof.Machine
end

