-- ==== Sys2Proof/Machine/MarkerStream.lean ====
section
/-! DEFINITION. The reference reading of the output stream (44_marker_stream.md R210 to R214) and a consumer's reading of the
lists successive `TAKE`s return. The consumer is outside the block: no operation of the block reads any of this. -/

namespace Sys2Proof.Machine

/-- A decoded output item (R210). -/
inductive Item where
  /-- `Plain(x)`: a literal host keycode. -/
  | plain (x : Byte)
  /-- `Shifted(x)`: the key of `x` with Shift held. -/
  | shifted (x : Byte)
  /-- `Ctrl(x)`: the key of `x` with Ctrl held. -/
  | ctrl (x : Byte)
deriving DecidableEq, Repr

/-- The states of the reference reading (R211). -/
inductive Reading where
  /-- `IDLE`, the initial state. -/
  | idle
  /-- `SHIFT_PEND`: a shift marker was read and its byte was not. -/
  | shiftPend
  /-- `CTRL_PEND`: a control marker was read and its byte was not. -/
  | ctrlPend
deriving DecidableEq, Repr

/-- One step of the reading: the next state and the item produced, if any (the table of R211). -/
def readByte : Reading → Byte → Reading × Option Item
  | .idle, y =>
    if y = shiftMarker then (.shiftPend, none)
    else if y = ctrlMarker then (.ctrlPend, none)
    else (.idle, some (.plain y))
  | .shiftPend, y => (.idle, some (.shifted y))
  | .ctrlPend, y => (.idle, some (.ctrl y))

/-- The reading of a byte sequence from a given state: the items in order and the final state. -/
def decodeFrom : Reading → List Byte → List Item × Reading
  | q, [] => ([], q)
  | q, y :: ys =>
    let r := decodeFrom (readByte q y).1 ys
    ((readByte q y).2.toList ++ r.1, r.2)

/-- `decode(ys)`: the reading from `IDLE` (R211). -/
def decodeStream (ys : List Byte) : List Item × Reading := decodeFrom .idle ys

/-- The length in bytes of the item that starts at a byte (30_encoding.md R76). -/
def itemLength (y : Byte) : Nat := if isMarker y then 2 else 1

/-- A consumer's reading of drained lists one after another from a given state. With `carry`, a marker pending at the end
of a list applies to the first byte of the next; without, it is discarded (R214, `CONSUMER_CARRY`). -/
def readLists (carry : Bool) : Reading → List (List Byte) → List Item × Reading
  | q, [] => ([], q)
  | q, ys :: rest =>
    let r := decodeFrom q ys
    let r' := readLists carry (if carry then r.2 else .idle) rest
    (r.1 ++ r'.1, if rest.isEmpty then r.2 else r'.2)

/-- The lists `TAKE` has returned, in order. -/
def takenLists : List Returned → List (List Byte)
  | [] => []
  | .take xs :: rest => xs :: takenLists rest
  | .peek _ :: rest => takenLists rest

/-- What the consumer of this block has read: the lists taken so far, with the block's `CONSUMER_CARRY` (R8, R214). -/
def consumerReading (s : State) : List Item × Reading :=
  readLists s.cfg.consumerCarry .idle (takenLists s.returned)

/-- The item a received byte stands for when nothing is lost (44_marker_stream.md R215): a plain byte for classes 1
and 6, a control item for classes 2 and 4, a shifted item for classes 3 and 5, of the emission's last byte. -/
def itemOf (b : Byte) : Item :=
  match classify b, emission b with
  | .exc, _ => .plain b
  | .pass, _ => .plain b
  | .ctrlLow, ys => .ctrl (ys.getLastD 0#8)
  | .ctrlRange, ys => .ctrl (ys.getLastD 0#8)
  | .shiftTab, ys => .shifted (ys.getLastD 0#8)
  | .shiftAlpha, ys => .shifted (ys.getLastD 0#8)

end Sys2Proof.Machine
end

