-- ==== Sys2Proof/Safety.lean ====
section
/-! DEFINITION. What counts as a good state and a good run, in the terms the statements use. -/

namespace Sys2Proof.Machine

/-- No fault flag is set: the premise of a claim about a run (60_exceptions.md R233). -/
def State.faultFree (s : State) : Bool := !s.rxOverrun && !s.txOverrun

/-- The bytes the OutputBuffer holds, oldest first, read slot by slot (10_state.md R23). -/
def stored (s : State) : List Byte := (List.range s.len).filterMap s.slot

/-- The bytes stored since reset, in order: those `TAKE`s have returned, then those still in the buffer (42_output_buffer.md R167). -/
def delivered (s : State) : List Byte := (takenLists s.returned).flatten ++ stored s

/-- How many faults of a code have been recorded. -/
def faultCount (code : FaultCode) (s : State) : Nat := s.faultLog.countP (fun r => r.code == code)

/-- The bytes of the outbound link: those sent, then the one pending (10_state.md R27, R28). -/
def outbound (s : State) : List Byte := s.txWire ++ s.txHold.toList

/-- The invariant of the block's state: the parameters are in their ranges (00_scope.md R8); `0 <= len <= CAP` and
exactly the slots `0 .. len-1` hold bytes (42_output_buffer.md R166); `rx_q` holds at most `RX_DEPTH` bytes (10_state.md
R26); `ovf_cnt < 2^OVF_CNT_W` (R20); a fault flag is set exactly when a fault of its code is recorded (R30, R232). -/
abbrev BlockInv (s : State) : Prop :=
  s.cfg.wellFormed = true ∧
  s.buf.map Prod.fst = List.range s.len ∧
  s.len ≤ s.cfg.cap ∧
  s.rxQ.length ≤ s.cfg.rxDepth ∧
  s.ovfCnt ≤ ovfMax s.cfg ∧
  s.rxOverrun = decide (0 < faultCount .rxOverrun s) ∧
  s.txOverrun = decide (0 < faultCount .txOverrun s)

/-- Every control response is accounted for: each notification is a byte sent, the byte pending, or a `TX_OVERRUN`
(43_control_signals.md R190, R195; 40_link_receiver.md R96, R97). -/
abbrev ResponsesAccounted (s : State) : Prop :=
  s.notifyLog.length = (outbound s).length + faultCount .txOverrun s

/-- The outbound link carries, in order, control bytes of responses that were notified (30_encoding.md R78;
40_link_receiver.md R98). -/
abbrev OutboundFollowsResponses (s : State) : Prop :=
  (outbound s).Sublist (s.notifyLog.map responseByte)

/-- A `TRANSLATE` of this byte now would lose nothing: its whole emission fits (70_reset_and_hazards.md R266, 42_output_buffer.md R170). -/
abbrev fits (b : Byte) (s : State) : Prop := s.len + (emission b).length ≤ s.cfg.cap

/-- `ys` were appended, each checked against capacity on its own (42_output_buffer.md R160, R168 to R170): the first
`CAP - len` of them stand at the indices from the old `len` on, every other slot is as before, and the counter, where
there is one, has counted the rest. -/
def Appended (ys : List Byte) (s t : State) : Prop :=
  t.len = s.len + min ys.length (s.cfg.cap - s.len) ∧
  (∀ j, t.slot j = if s.len ≤ j ∧ j < t.len then ys[j - s.len]? else s.slot j) ∧
  t.ovfCnt =
    if s.cfg.ovfCntW = 0 ∨ ys.length ≤ s.cfg.cap - s.len then s.ovfCnt
    else min (s.ovfCnt + (ys.length - (s.cfg.cap - s.len))) (2 ^ s.cfg.ovfCntW - 1)

/-- The outbound link and the notifications are as before, and no fault was raised. `faultLog` is the model's record of
faults (assumption 6). -/
def LinkKept (s t : State) : Prop :=
  t.txHold = s.txHold ∧ t.txOverrun = s.txOverrun ∧ t.faultLog = s.faultLog ∧ t.notifyLog = s.notifyLog

/-- A control response of kind `k` with byte `v` (43_control_signals.md R190; 40_link_receiver.md R96): the byte is held if
none was pending, else `TX_OVERRUN` is raised and the pending byte stays; the notification is emitted either way. `faultLog` is the model's
record of faults (assumption 6). -/
def Responds (k : TriggerKind) (v : Byte) (s t : State) : Prop :=
  t.notifyLog = s.notifyLog ++ [k] ∧
  (s.txHold = none → t.txHold = some v ∧ t.txOverrun = s.txOverrun ∧ t.faultLog = s.faultLog) ∧
  (∀ w, s.txHold = some w → t.txHold = some w ∧ t.txOverrun = true)

/-- The control step on the received byte `b` (43_control_signals.md R190 to R194). -/
def ControlEffect (b : Byte) (s t : State) : Prop :=
  (b = 0xC3#8 → Responds .clickOn 0x04#8 s t) ∧
  (b = 0xB2#8 → Responds .clickOff 0x0A#8 s t) ∧
  (b = 0x0A#8 → Responds .ack 0x10#8 s t) ∧
  (b ≠ 0xC3#8 ∧ b ≠ 0xB2#8 ∧ b ≠ 0x0A#8 → LinkKept s t)

/-- Everything the handling of a byte does not write (41_scan_translator.md R111, "State written"). The byte itself was
taken from `rx_q` before. -/
def HandlerKeeps (s t : State) : Prop :=
  t.cfg = s.cfg ∧ t.rxQ = s.rxQ ∧ t.rxOverrun = s.rxOverrun ∧ t.txWire = s.txWire ∧ t.returned = s.returned ∧
  t.agenda = s.agenda ∧ t.turn = s.turn

/-- `IN b` from reset (30_encoding.md R79), with any parameters in range and room for the emission `ys`: exactly `ys` is
stored, the byte is off the queue, and the outbound byte and notification of its trigger, if it is one, are there. -/
def InFromReset (b : Byte) (ys : List Byte) : Prop :=
  ∀ p : Params, p.wellFormed = true → ys.length ≤ p.cap →
    ∃ t u : State, perform (.rx b) { State.reset with cfg := p } = .next t ∧ perform .translate t = .next u ∧
      u.rxQ = [] ∧ u.len = ys.length ∧ (∀ j, u.slot j = ys[j]?) ∧ u.faultFree = true ∧ u.txWire = [] ∧ u.ovfCnt = 0 ∧
      (b = 0xC3#8 → u.txHold = some 0x04#8 ∧ u.notifyLog = [.clickOn]) ∧
      (b = 0xB2#8 → u.txHold = some 0x0A#8 ∧ u.notifyLog = [.clickOff]) ∧
      (b = 0x0A#8 → u.txHold = some 0x10#8 ∧ u.notifyLog = [.ack]) ∧
      (b ≠ 0xC3#8 ∧ b ≠ 0xB2#8 ∧ b ≠ 0x0A#8 → u.txHold = none ∧ u.notifyLog = [])

/-- The whole effect of handling the byte `b` with emission `ys`. -/
def Handles (b : Byte) (ys : List Byte) (s t : State) : Prop :=
  Appended ys s t ∧ ControlEffect b s t ∧ HandlerKeeps s t

end Sys2Proof.Machine
end

