-- ==== Sys2Proof/Certificates/Slice0/Obligations.lean ====
section
/-! DEFINITION. The statements for the provers. Each docstring names the rules of spec/ it formalises; where a clause rests
on the model's own choice it names the assumption. -/

open Sys2Proof Sys2Proof.Machine

/-- One row for each byte value, one byte for each row (30_encoding.md R70, R80): no bit of an encoding is dropped. -/
def Obligations.DecodeOfEncodeIsTheInstruction : Prop :=
  ∀ (i : Instr) (rest : List Byte), i.wellFormed = true → decode (encode i ++ rest) = .ok (i, rest)

/-- No input byte is illegal or reserved (30_encoding.md R74), and all 8 bits together select the row (R70). -/
def Obligations.EveryByteIsExactlyOneInstruction : Prop :=
  ∀ (b : Byte) (rest : List Byte),
    ∃ i : Instr, decode (b :: rest) = .ok (i, rest) ∧ encode i = [b] ∧ ∀ j : Instr, encode j = [b] → j = i

/-- A sanity statement on a few words of 30_encoding.md R80. -/
def Obligations.WrittenWordsDecodeToTheirRows : Prop :=
  decode [0b00001101#8] = .ok (.rx0DExc, []) ∧ decode [0b00011100#8] = .ok (.rx1CCtrlLow, []) ∧
  decode [0b01000000#8] = .ok (.rx40ShiftTab, []) ∧ decode [0b00001010#8] = .ok (.rx0ACtrlRange, []) ∧
  decode [0b01011010#8] = .ok (.rx5AShiftAlpha, []) ∧ decode [0b11000011#8] = .ok (.rxC3Pass, []) ∧
  decode [] = .error .noByte

/-- The partition of 30_encoding.md R72: the byte sets after priority, the counts, and the emission of each class.
The 21 entries of the shift table are written out in `ShiftTableBytesShiftByTheirEntryFirstHalf` and
`ShiftTableBytesShiftByTheirEntrySecondHalf`. -/
def Obligations.ClassesHaveTheListedBytes : Prop :=
  (∀ b : Byte,
    (classify b = .exc ↔ b ∈ [0x08#8, 0x09#8, 0x0D#8, 0x1B#8]) ∧
    (classify b = .ctrlLow ↔ b ∈ [0x00#8, 0x1C#8, 0x1D#8, 0x1E#8, 0x1F#8]) ∧
    (classify b = .shiftTab ↔ b ∈ [0x21#8, 0x22#8, 0x23#8, 0x24#8, 0x25#8, 0x26#8, 0x28#8, 0x29#8, 0x2A#8, 0x2B#8,
      0x3A#8, 0x3C#8, 0x3E#8, 0x3F#8, 0x40#8, 0x5E#8, 0x5F#8, 0x7B#8, 0x7C#8, 0x7D#8, 0x7E#8]) ∧
    (classify b = .ctrlRange ↔
      (0x01#8 ≤ b ∧ b ≤ 0x07#8) ∨ (0x0A#8 ≤ b ∧ b ≤ 0x0C#8) ∨ (0x0E#8 ≤ b ∧ b ≤ 0x1A#8)) ∧
    (classify b = .shiftAlpha ↔ 0x41#8 ≤ b ∧ b ≤ 0x5A#8) ∧
    (classify b = .pass ↔ b = 0x20#8 ∨ b = 0x27#8 ∨ (0x2C#8 ≤ b ∧ b ≤ 0x39#8) ∨ b = 0x3B#8 ∨ b = 0x3D#8 ∨
      (0x5B#8 ≤ b ∧ b ≤ 0x5D#8) ∨ (0x60#8 ≤ b ∧ b ≤ 0x7A#8) ∨ 0x7F#8 ≤ b) ∧
    (classify b = .exc ∨ classify b = .pass → emission b = [b]) ∧
    (classify b = .ctrlLow → emission b = [0xF6#8, b + 0x40#8]) ∧
    (classify b = .shiftTab → ∃ d : Int, shiftTab.lookup b = some d ∧ emission b = [0xF5#8, add8 b d]) ∧
    (classify b = .ctrlRange → emission b = [0xF6#8, b + 0x60#8]) ∧
    (classify b = .shiftAlpha → emission b = [0xF5#8, b + 0x20#8])) ∧
  [ScanClass.exc, .ctrlLow, .shiftTab, .ctrlRange, .shiftAlpha, .pass].map
    (fun c => ((List.range 256).filter fun n => classify (BitVec.ofNat 8 n) = c).length) = [4, 5, 21, 23, 26, 177]

/-- The classification function of 41_scan_translator.md R110 with the shift table of R114 written out. -/
def Obligations.EmissionIsTheFirstMatchingRule : Prop :=
  ∀ b : Byte, emission b =
    if b ∈ [0x08#8, 0x09#8, 0x0D#8, 0x1B#8] then [b]
    else if b ∈ [0x00#8, 0x1C#8, 0x1D#8, 0x1E#8, 0x1F#8] then [0xF6#8, add8 b 0x40]
    else if b ∈ [0x21#8, 0x23#8, 0x24#8, 0x25#8] then [0xF5#8, add8 b 0x10]
    else if b = 0x26#8 ∨ b = 0x28#8 then [0xF5#8, add8 b 0x11]
    else if b = 0x29#8 then [0xF5#8, add8 b 0x07]
    else if b = 0x40#8 then [0xF5#8, add8 b (-0x0E)]
    else if b = 0x2A#8 then [0xF5#8, add8 b 0x0E]
    else if b = 0x2B#8 then [0xF5#8, add8 b 0x12]
    else if b = 0x22#8 then [0xF5#8, add8 b 0x05]
    else if b = 0x3A#8 then [0xF5#8, add8 b 0x01]
    else if b ∈ [0x3C#8, 0x3E#8, 0x3F#8] then [0xF5#8, add8 b (-0x10)]
    else if b = 0x5E#8 then [0xF5#8, add8 b (-0x28)]
    else if b = 0x5F#8 then [0xF5#8, add8 b (-0x32)]
    else if b ∈ [0x7B#8, 0x7C#8, 0x7D#8] then [0xF5#8, add8 b (-0x20)]
    else if b = 0x7E#8 then [0xF5#8, add8 b (-0x1E)]
    else if b ≤ 0x1F#8 then [0xF6#8, add8 b 0x60]
    else if 0x41#8 ≤ b ∧ b ≤ 0x5A#8 then [0xF5#8, add8 b 0x20]
    else [b]

/-- The shape of an emission (41_scan_translator.md R140). -/
def Obligations.EmissionShapeAndSecondBytes : Prop :=
  (∀ b : Byte,
    (classify b ∈ [ScanClass.exc, .pass] → (emission b).length = 1) ∧
    (classify b ∈ [ScanClass.ctrlLow, .shiftTab, .ctrlRange, .shiftAlpha] →
      ∃ m x : Byte, emission b = [m, x] ∧ isMarker m = true ∧ isMarker x = false ∧
        (x = 0x27#8 ∨ (0x2C#8 ≤ x ∧ x ≤ 0x3B#8 ∧ x ≠ 0x3A#8) ∨ x = 0x3D#8 ∨ x = 0x40#8 ∨
          (0x5B#8 ≤ x ∧ x ≤ 0x7A#8))) ∧
    (classify b = .ctrlLow → b.toNat + 0x40 ≤ 255) ∧ (classify b = .ctrlRange → b.toNat + 0x60 ≤ 255) ∧
    (classify b = .shiftAlpha → b.toNat + 0x20 ≤ 255)) ∧
  (∀ e ∈ shiftTab, 0 ≤ (e.1.toNat : Int) + e.2 ∧ (e.1.toNat : Int) + e.2 ≤ 255) ∧
  (∀ x : Byte,
    (x = 0x27#8 ∨ (0x2C#8 ≤ x ∧ x ≤ 0x3B#8 ∧ x ≠ 0x3A#8) ∨ x = 0x3D#8 ∨ x = 0x40#8 ∨ (0x5B#8 ≤ x ∧ x ≤ 0x7A#8)) →
      ∃ b m : Byte, emission b = [m, x]) ∧
  ((List.range 256).filter fun n =>
    n = 0x27 ∨ (0x2C ≤ n ∧ n ≤ 0x3B ∧ n ≠ 0x3A) ∨ n = 0x3D ∨ n = 0x40 ∨ (0x5B ≤ n ∧ n ≤ 0x7A)).length = 50

/-- The 256 bytes give 256 distinct emissions (the first clause of 41_scan_translator.md R141). -/
def Obligations.EmissionTellsTheByte : Prop :=
  ∀ b c : Byte, emission b = emission c → b = c

/-- Rule 1 (41_scan_translator.md R112). Each completes in every state: the emission appended, each byte checked
against capacity, every other slot and every field the handling does not write as before (`Handles`); and from
reset it leaves exactly its emission (`InFromReset`). -/
def Obligations.ExceptionBytesAreStoredAsTheyAre : Prop :=
  ∀ (i : Instr) (b : Byte), (i, b) ∈
    ([(.rx08Exc, 0x08#8), (.rx09Exc, 0x09#8), (.rx0DExc, 0x0D#8), (.rx1BExc, 0x1B#8)] : List (Instr × Byte)) →
    decodeByte b = i ∧ classify b = .exc ∧ emission b = [b] ∧ triggerOf b = none ∧ InFromReset b [b] ∧
    ∀ s : State, ∃ t : State, exec i s = .next t ∧ Handles b [b] s t

/-- Rule 2 (41_scan_translator.md R113). Each completes in every state: the emission appended, each byte checked
against capacity, every other slot and every field the handling does not write as before (`Handles`); and from
reset it leaves exactly its emission (`InFromReset`). -/
def Obligations.LowControlBytesShiftByForty : Prop :=
  ∀ (i : Instr) (b x : Byte), (i, b, x) ∈
    ([(.rx00CtrlLow, 0x00#8, 0x40#8), (.rx1CCtrlLow, 0x1C#8, 0x5C#8), (.rx1DCtrlLow, 0x1D#8, 0x5D#8),
      (.rx1ECtrlLow, 0x1E#8, 0x5E#8), (.rx1FCtrlLow, 0x1F#8, 0x5F#8)] : List (Instr × Byte × Byte)) →
    decodeByte b = i ∧ classify b = .ctrlLow ∧ emission b = [0xF6#8, add8 b 0x40] ∧ add8 b 0x40 = x ∧ InFromReset b [0xF6#8, x] ∧
    ∀ s : State, ∃ t : State, exec i s = .next t ∧ Handles b [0xF6#8, x] s t

/-- Rule 3, entries 1 to 11 (41_scan_translator.md R115 to R125). Each completes in every state: the emission
appended, each byte checked against capacity, every other slot and every field the handling does not write as
before (`Handles`); and from reset it leaves exactly its emission (`InFromReset`). -/
def Obligations.ShiftTableBytesShiftByTheirEntryFirstHalf : Prop :=
  ∀ (i : Instr) (b : Byte) (d : Int) (x : Byte), (i, b, d, x) ∈
    ([(.rx21ShiftTab, 0x21#8, 0x10, 0x31#8), (.rx23ShiftTab, 0x23#8, 0x10, 0x33#8),
      (.rx24ShiftTab, 0x24#8, 0x10, 0x34#8), (.rx25ShiftTab, 0x25#8, 0x10, 0x35#8),
      (.rx26ShiftTab, 0x26#8, 0x11, 0x37#8), (.rx28ShiftTab, 0x28#8, 0x11, 0x39#8),
      (.rx29ShiftTab, 0x29#8, 0x07, 0x30#8), (.rx40ShiftTab, 0x40#8, -0x0E, 0x32#8),
      (.rx2AShiftTab, 0x2A#8, 0x0E, 0x38#8), (.rx2BShiftTab, 0x2B#8, 0x12, 0x3D#8),
      (.rx22ShiftTab, 0x22#8, 0x05, 0x27#8)] : List (Instr × Byte × Int × Byte)) →
    decodeByte b = i ∧ classify b = .shiftTab ∧ shiftTab.lookup b = some d ∧
    emission b = [0xF5#8, add8 b d] ∧ add8 b d = x ∧ 0 ≤ (b.toNat : Int) + d ∧ (b.toNat : Int) + d ≤ 255 ∧
    triggerOf b = none ∧ InFromReset b [0xF5#8, x] ∧
    ∀ s : State, ∃ t : State, exec i s = .next t ∧ Handles b [0xF5#8, x] s t

/-- Rule 3, entries 12 to 21 (41_scan_translator.md R126 to R135). Each completes in every state: the emission
appended, each byte checked against capacity, every other slot and every field the handling does not write as
before (`Handles`); and from reset it leaves exactly its emission (`InFromReset`). -/
def Obligations.ShiftTableBytesShiftByTheirEntrySecondHalf : Prop :=
  ∀ (i : Instr) (b : Byte) (d : Int) (x : Byte), (i, b, d, x) ∈
    ([(.rx3AShiftTab, 0x3A#8, 0x01, 0x3B#8), (.rx3CShiftTab, 0x3C#8, -0x10, 0x2C#8),
      (.rx3EShiftTab, 0x3E#8, -0x10, 0x2E#8), (.rx3FShiftTab, 0x3F#8, -0x10, 0x2F#8),
      (.rx5EShiftTab, 0x5E#8, -0x28, 0x36#8), (.rx5FShiftTab, 0x5F#8, -0x32, 0x2D#8),
      (.rx7BShiftTab, 0x7B#8, -0x20, 0x5B#8), (.rx7CShiftTab, 0x7C#8, -0x20, 0x5C#8),
      (.rx7DShiftTab, 0x7D#8, -0x20, 0x5D#8), (.rx7EShiftTab, 0x7E#8, -0x1E, 0x60#8)] : List (Instr × Byte × Int × Byte)) →
    decodeByte b = i ∧ classify b = .shiftTab ∧ shiftTab.lookup b = some d ∧
    emission b = [0xF5#8, add8 b d] ∧ add8 b d = x ∧ 0 ≤ (b.toNat : Int) + d ∧ (b.toNat : Int) + d ≤ 255 ∧
    triggerOf b = none ∧ InFromReset b [0xF5#8, x] ∧
    ∀ s : State, ∃ t : State, exec i s = .next t ∧ Handles b [0xF5#8, x] s t

/-- Rule 4 (41_scan_translator.md R136). Each completes in every state: the emission appended, each byte checked
against capacity, every other slot and every field the handling does not write as before (`Handles`); and from
reset it leaves exactly its emission (`InFromReset`). -/
def Obligations.ControlRangeBytesShiftBySixty : Prop :=
  ∀ (i : Instr) (b x : Byte), (i, b, x) ∈
    ([(.rx01CtrlRange, 0x01#8, 0x61#8), (.rx02CtrlRange, 0x02#8, 0x62#8), (.rx03CtrlRange, 0x03#8, 0x63#8),
      (.rx04CtrlRange, 0x04#8, 0x64#8), (.rx05CtrlRange, 0x05#8, 0x65#8), (.rx06CtrlRange, 0x06#8, 0x66#8),
      (.rx07CtrlRange, 0x07#8, 0x67#8), (.rx0ACtrlRange, 0x0A#8, 0x6A#8), (.rx0BCtrlRange, 0x0B#8, 0x6B#8),
      (.rx0CCtrlRange, 0x0C#8, 0x6C#8), (.rx0ECtrlRange, 0x0E#8, 0x6E#8), (.rx0FCtrlRange, 0x0F#8, 0x6F#8),
      (.rx10CtrlRange, 0x10#8, 0x70#8), (.rx11CtrlRange, 0x11#8, 0x71#8), (.rx12CtrlRange, 0x12#8, 0x72#8),
      (.rx13CtrlRange, 0x13#8, 0x73#8), (.rx14CtrlRange, 0x14#8, 0x74#8), (.rx15CtrlRange, 0x15#8, 0x75#8),
      (.rx16CtrlRange, 0x16#8, 0x76#8), (.rx17CtrlRange, 0x17#8, 0x77#8), (.rx18CtrlRange, 0x18#8, 0x78#8),
      (.rx19CtrlRange, 0x19#8, 0x79#8), (.rx1ACtrlRange, 0x1A#8, 0x7A#8)] : List (Instr × Byte × Byte)) →
    decodeByte b = i ∧ classify b = .ctrlRange ∧ emission b = [0xF6#8, add8 b 0x60] ∧ add8 b 0x60 = x ∧ InFromReset b [0xF6#8, x] ∧
    0x61#8 ≤ x ∧ x ≤ 0x7A#8 ∧
    ∀ s : State, ∃ t : State, exec i s = .next t ∧ Handles b [0xF6#8, x] s t

/-- Rule 5 (41_scan_translator.md R137). Each completes in every state: the emission appended, each byte checked
against capacity, every other slot and every field the handling does not write as before (`Handles`); and from
reset it leaves exactly its emission (`InFromReset`). -/
def Obligations.ShiftedLettersShiftByTwenty : Prop :=
  ∀ (i : Instr) (b x : Byte), (i, b, x) ∈
    ([(.rx41ShiftAlpha, 0x41#8, 0x61#8), (.rx42ShiftAlpha, 0x42#8, 0x62#8), (.rx43ShiftAlpha, 0x43#8, 0x63#8),
      (.rx44ShiftAlpha, 0x44#8, 0x64#8), (.rx45ShiftAlpha, 0x45#8, 0x65#8), (.rx46ShiftAlpha, 0x46#8, 0x66#8),
      (.rx47ShiftAlpha, 0x47#8, 0x67#8), (.rx48ShiftAlpha, 0x48#8, 0x68#8), (.rx49ShiftAlpha, 0x49#8, 0x69#8),
      (.rx4AShiftAlpha, 0x4A#8, 0x6A#8), (.rx4BShiftAlpha, 0x4B#8, 0x6B#8), (.rx4CShiftAlpha, 0x4C#8, 0x6C#8),
      (.rx4DShiftAlpha, 0x4D#8, 0x6D#8), (.rx4EShiftAlpha, 0x4E#8, 0x6E#8), (.rx4FShiftAlpha, 0x4F#8, 0x6F#8),
      (.rx50ShiftAlpha, 0x50#8, 0x70#8), (.rx51ShiftAlpha, 0x51#8, 0x71#8), (.rx52ShiftAlpha, 0x52#8, 0x72#8),
      (.rx53ShiftAlpha, 0x53#8, 0x73#8), (.rx54ShiftAlpha, 0x54#8, 0x74#8), (.rx55ShiftAlpha, 0x55#8, 0x75#8),
      (.rx56ShiftAlpha, 0x56#8, 0x76#8), (.rx57ShiftAlpha, 0x57#8, 0x77#8), (.rx58ShiftAlpha, 0x58#8, 0x78#8),
      (.rx59ShiftAlpha, 0x59#8, 0x79#8), (.rx5AShiftAlpha, 0x5A#8, 0x7A#8)] : List (Instr × Byte × Byte)) →
    decodeByte b = i ∧ classify b = .shiftAlpha ∧ emission b = [0xF5#8, add8 b 0x20] ∧ add8 b 0x20 = x ∧ InFromReset b [0xF5#8, x] ∧
    0x61#8 ≤ x ∧ x ≤ 0x7A#8 ∧
    ∀ s : State, ∃ t : State, exec i s = .next t ∧ Handles b [0xF5#8, x] s t

/-- Rule 6 (41_scan_translator.md R138): the 177 rows `RX_<byte>_PASS`. Each completes in every state: the emission
appended, each byte checked against capacity, every other slot and every field the handling does not write as
before (`Handles`); and from reset it leaves exactly its emission (`InFromReset`). -/
def Obligations.DefaultBytesAreStoredAsTheyAre : Prop :=
  ∀ b : Byte,
    (b = 0x20#8 ∨ b = 0x27#8 ∨ (0x2C#8 ≤ b ∧ b ≤ 0x39#8) ∨ b = 0x3B#8 ∨ b = 0x3D#8 ∨ (0x5B#8 ≤ b ∧ b ≤ 0x5D#8) ∨
      (0x60#8 ≤ b ∧ b ≤ 0x7A#8) ∨ 0x7F#8 ≤ b) →
    (decodeByte b).cls = .pass ∧ classify b = .pass ∧ emission b = [b] ∧ InFromReset b [b] ∧
    ∀ s : State, ∃ t : State, exec (decodeByte b) s = .next t ∧ Handles b [b] s t

/-- The correspondence of names that 41_scan_translator.md R110 marks as its own reading. -/
def Obligations.RemapRulesFollowTheClasses : Prop :=
  ∀ b : Byte,
    (classify b = .exc ↔ remapRule b = .exceptionPassThrough) ∧
    (classify b = .ctrlLow ↔ remapRule b = .ctrlOffsetLow) ∧
    (classify b = .ctrlRange ↔ remapRule b = .ctrlOffsetHigh) ∧
    (classify b = .pass ↔ remapRule b = .passThrough) ∧
    (classify b = .shiftTab → ∃ d : Int, shiftTab.lookup b = some d ∧ remapRule b = .shiftOffset d) ∧
    (classify b = .shiftAlpha → remapRule b = .shiftOffset 0x20) ∧
    (remapRule b = .exceptionPassThrough → emission b = [b]) ∧
    (remapRule b = .ctrlOffsetLow → emission b = [0xF6#8, add8 b 0x40]) ∧
    (remapRule b = .ctrlOffsetHigh → emission b = [0xF6#8, add8 b 0x60]) ∧
    (remapRule b = .passThrough → emission b = [b]) ∧
    (∀ d : Int, remapRule b = .shiftOffset d →
      (classify b = .shiftTab ∨ classify b = .shiftAlpha) ∧ emission b = [0xF5#8, add8 b d])

/-- The table (30_encoding.md R80) against the algorithm (41_scan_translator.md R110, R111): two separate writings
of the same function. No form faults, refuses or waits (41_scan_translator.md R139; 40_link_receiver.md R99). -/
def Obligations.EveryInstructionRunsTheClassification : Prop :=
  ∀ (i : Instr) (s : State),
    exec i s = .next (controlStep (opcode i) (appendAll (emission (opcode i)) s))

/-- Trigger `0xC3` (43_control_signals.md R191). That the notification is emitted even when `TX` faults is the
spec's own decision D3. -/
def Obligations.ByteC3EnablesClick : Prop :=
  decodeByte 0xC3#8 = .rxC3Pass ∧ classify 0xC3#8 = .pass ∧ InFromReset 0xC3#8 [0xC3#8] ∧
  ∀ s : State, ∃ t : State, exec .rxC3Pass s = .next t ∧
    Appended [0xC3#8] s t ∧ HandlerKeeps s t ∧ t.notifyLog = s.notifyLog ++ [.clickOn] ∧
    (s.txHold = none → t.txHold = some 0x04#8 ∧ t.txOverrun = s.txOverrun) ∧
    (∀ w : Byte, s.txHold = some w → t.txHold = some w ∧ t.txOverrun = true)

/-- Trigger `0xB2` (43_control_signals.md R192). That the notification is emitted even when `TX` faults is the
spec's own decision D3. -/
def Obligations.ByteB2DisablesClick : Prop :=
  decodeByte 0xB2#8 = .rxB2Pass ∧ classify 0xB2#8 = .pass ∧ InFromReset 0xB2#8 [0xB2#8] ∧
  ∀ s : State, ∃ t : State, exec .rxB2Pass s = .next t ∧
    Appended [0xB2#8] s t ∧ HandlerKeeps s t ∧ t.notifyLog = s.notifyLog ++ [.clickOff] ∧
    (s.txHold = none → t.txHold = some 0x0A#8 ∧ t.txOverrun = s.txOverrun) ∧
    (∀ w : Byte, s.txHold = some w → t.txHold = some w ∧ t.txOverrun = true)

/-- Trigger `0x0A` (43_control_signals.md R193). That the notification is emitted even when `TX` faults is the
spec's own decision D3. -/
def Obligations.Byte0AAcknowledges : Prop :=
  decodeByte 0x0A#8 = .rx0ACtrlRange ∧ classify 0x0A#8 = .ctrlRange ∧ InFromReset 0x0A#8 [0xF6#8, 0x6A#8] ∧
  ∀ s : State, ∃ t : State, exec .rx0ACtrlRange s = .next t ∧
    Appended [0xF6#8, 0x6A#8] s t ∧ HandlerKeeps s t ∧ t.notifyLog = s.notifyLog ++ [.ack] ∧
    (s.txHold = none → t.txHold = some 0x10#8 ∧ t.txOverrun = s.txOverrun) ∧
    (∀ w : Byte, s.txHold = some w → t.txHold = some w ∧ t.txOverrun = true)

/-- 43_control_signals.md R194. -/
def Obligations.OnlyTheThreeTriggersRespond : Prop :=
  ∀ i : Instr, opcode i ≠ 0xC3#8 → opcode i ≠ 0xB2#8 → opcode i ≠ 0x0A#8 →
    ∀ s : State, ∃ t : State, exec i s = .next t ∧ t.txHold = s.txHold ∧ t.txWire = s.txWire ∧
      t.txOverrun = s.txOverrun ∧ t.notifyLog = s.notifyLog

/-- The three checks are mutually exclusive (43_control_signals.md R195), and at most one fault can arise in one
`TRANSLATE` (60_exceptions.md R237). The clauses on `faultLog` are about the model's own record, which keeps every
fault in order (assumption 6). -/
def Obligations.AtMostOneResponsePerByte : Prop :=
  ∀ (i : Instr) (s : State), ∃ t : State, exec i s = .next t ∧
    ((t.notifyLog = s.notifyLog ∧ t.faultLog = s.faultLog) ∨
     (∃ k : TriggerKind, t.notifyLog = s.notifyLog ++ [k] ∧
       (t.faultLog = s.faultLog ∨ t.faultLog = s.faultLog ++ [⟨.txOverrun, responseByte k⟩])))

/-- 43_control_signals.md R196: the control step does not look at the buffer. `faultLog` is the model's own record
of faults (assumption 6). -/
def Obligations.ResponseIgnoresTheBuffer : Prop :=
  ∀ (i : Instr) (s s' : State),
    s.txHold = s'.txHold → s.txOverrun = s'.txOverrun → s.faultLog = s'.faultLog → s.notifyLog = s'.notifyLog →
    ∃ t t' : State, exec i s = .next t ∧ exec i s' = .next t' ∧
      t.txHold = t'.txHold ∧ t.txOverrun = t'.txOverrun ∧ t.faultLog = t'.faultLog ∧ t.notifyLog = t'.notifyLog

/-- The emission and its appends are the same whether or not the byte is a trigger (43_control_signals.md R196),
and depend on nothing earlier (41_scan_translator.md R139). -/
def Obligations.AppendsIgnoreTheLink : Prop :=
  ∀ (i : Instr) (s s' : State),
    s.cfg = s'.cfg → s.buf = s'.buf → s.len = s'.len → s.ovfCnt = s'.ovfCnt →
    ∃ t t' : State, exec i s = .next t ∧ exec i s' = .next t' ∧
      t.buf = t'.buf ∧ t.len = t'.len ∧ t.ovfCnt = t'.ovfCnt

/-- `APPEND(v)` (42_output_buffer.md R160). -/
def Obligations.AppendStoresOrDrops : Prop :=
  ∀ (v : Byte) (s : State),
    (s.len < s.cfg.cap →
      (append v s).len = s.len + 1 ∧ (append v s).slot s.len = some v ∧
      (∀ j : Nat, j ≠ s.len → (append v s).slot j = s.slot j) ∧ (append v s).ovfCnt = s.ovfCnt) ∧
    (¬ s.len < s.cfg.cap →
      (append v s).len = s.len ∧ (∀ j : Nat, (append v s).slot j = s.slot j) ∧
      (s.cfg.ovfCntW = 0 → (append v s).ovfCnt = s.ovfCnt)) ∧
    LinkKept s (append v s) ∧ HandlerKeeps s (append v s)

/-- The optional counter (42_output_buffer.md R168; the spec's own decision D11). -/
def Obligations.DropsCountAndSaturate : Prop :=
  (∀ (v : Byte) (s : State), s.cfg.cap ≤ s.len → 0 < s.cfg.ovfCntW →
    append v s = { s with ovfCnt := min (s.ovfCnt + 1) (2 ^ s.cfg.ovfCntW - 1) }) ∧
  (∀ (v : Byte) (s : State), s.cfg.cap ≤ s.len → s.cfg.ovfCntW = 0 → append v s = s) ∧
  (∀ (v : Byte) (s : State), s.len < s.cfg.cap →
    append v s = { s with buf := Memory.store s.buf s.len v, len := s.len + 1 }) ∧
  (∀ (op : Op) (s t : State), op ≠ .translate → op ≠ .reset → perform op s = .next t → t.ovfCnt = s.ovfCnt) ∧
  (∀ s t : State, s.ovfCnt ≤ 2 ^ s.cfg.ovfCntW - 1 → perform .translate s = .next t → s.ovfCnt ≤ t.ovfCnt) ∧
  (∀ s : State, ∃ t : State, perform .reset s = .next t ∧ t.ovfCnt = 0)

/-- 42_output_buffer.md R170. -/
def Obligations.TranslateStoresWhatFits : Prop :=
  ∀ (s : State) (b : Byte) (q : List Byte), s.rxQ = b :: q →
    ∃ t : State, perform .translate s = .next t ∧ t.rxQ = q ∧
      t.len = s.len + min (emission b).length (s.cfg.cap - s.len) ∧
      stored t = stored s ++ (emission b).take (s.cfg.cap - s.len) ∧
      (0 < s.cfg.ovfCntW → s.ovfCnt ≤ 2 ^ s.cfg.ovfCntW - 1 →
        t.ovfCnt = min (s.ovfCnt + ((emission b).length - min (emission b).length (s.cfg.cap - s.len)))
          (2 ^ s.cfg.ovfCntW - 1))

/-- The capacity boundary (42_output_buffer.md R169). -/
def Obligations.PartialEmissionKeepsTheMarker : Prop :=
  ∀ (s : State) (b : Byte) (q : List Byte), s.rxQ = b :: q →
    ∃ t : State, perform .translate s = .next t ∧
      (∀ m x : Byte, emission b = [m, x] → s.len + 1 = s.cfg.cap →
        t.len = s.cfg.cap ∧ t.slot s.len = some m ∧ ∀ j : Nat, j ≠ s.len → t.slot j = s.slot j) ∧
      (s.cfg.cap ≤ s.len → t.len = s.len ∧ ∀ j : Nat, t.slot j = s.slot j) ∧
      (∀ m x : Byte, emission b = [m, x] → s.len + 2 ≤ s.cfg.cap →
        t.len = s.len + 2 ∧ t.slot s.len = some m ∧ t.slot (s.len + 1) = some x ∧
        ∀ j : Nat, j ≠ s.len → j ≠ s.len + 1 → t.slot j = s.slot j) ∧
      (∀ x : Byte, emission b = [x] → s.len < s.cfg.cap →
        t.len = s.len + 1 ∧ t.slot s.len = some x ∧ ∀ j : Nat, j ≠ s.len → t.slot j = s.slot j)

/-- The head of `rx_q` is taken and its row run (41_scan_translator.md R111). How the next operation is chosen is
the model's choice (assumption 3). -/
def Obligations.StepRunsTheDecodedInstruction : Prop :=
  ∀ (s : State) (b : Byte) (q : List Byte) (i : Instr),
    nextOp s = .translate → s.rxQ = b :: q → decode [b] = .ok (i, []) → i.wellFormed = true →
    step s = exec i { advance s with rxQ := q }

/-- The model's choice of how agents are scheduled (assumption 3): a statement about every state holds for every
order of operations. -/
def Obligations.StepPerformsTheChosenOperation : Prop :=
  (∀ (s : State) (op : Op) (rest : List Op), s.agenda = op :: rest → step s = perform op { s with agenda := rest }) ∧
  (∀ s : State, s.agenda = [] → step s = perform (Config.schedule s.turn) { s with turn := s.turn + 1 })

/-- `RX(b)` (40_link_receiver.md R92). The recorded byte stands in `faultLog`, the model's form of it (assumption
6). -/
def Obligations.ReceiveQueuesOrOverruns : Prop :=
  ∀ (b : Byte) (s : State), enabled (.rx b) s = true ∧ ∃ t : State, perform (.rx b) s = .next t ∧
    (s.rxQ.length < s.cfg.rxDepth → t.rxQ = s.rxQ ++ [b] ∧ t.rxOverrun = s.rxOverrun ∧ t.faultLog = s.faultLog) ∧
    (¬ s.rxQ.length < s.cfg.rxDepth →
      t.rxQ = s.rxQ ∧ t.rxOverrun = true ∧ t.faultLog = s.faultLog ++ [⟨.rxOverrun, b⟩]) ∧
    t.buf = s.buf ∧ t.len = s.len ∧ t.txHold = s.txHold ∧ t.txOverrun = s.txOverrun ∧ t.ovfCnt = s.ovfCnt ∧
    t.txWire = s.txWire ∧ t.notifyLog = s.notifyLog ∧ t.cfg = s.cfg ∧ t.returned = s.returned ∧
    t.agenda = s.agenda ∧ t.turn = s.turn

/-- `TXDONE` (40_link_receiver.md R97; the spec's own decision D7). -/
def Obligations.TxDoneSendsThePendingByte : Prop :=
  ∀ s : State,
    (enabled .txDone s = true ↔ s.txHold ≠ none) ∧
    (∀ v : Byte, s.txHold = some v →
      perform .txDone s = .next { s with txHold := none, txWire := s.txWire ++ [v] })

/-- The model's choice (assumption 4): a disabled operation is a turn that passes. -/
def Obligations.DisabledOperationsLetTheTurnPass : Prop :=
  ∀ s : State,
    (s.rxQ = [] → enabled .translate s = false ∧ perform .translate s = .next s) ∧
    (s.txHold = none → enabled .txDone s = false ∧ perform .txDone s = .next s)

/-- `TAKE` (42_output_buffer.md R163). The list returned is read from `returned`, the model's own record
(assumption 5). -/
def Obligations.TakeReturnsAllAndEmpties : Prop :=
  ∀ s : State, (∀ j : Nat, j < s.len → (s.slot j).isSome = true) →
    ∃ (xs : List Byte) (t : State), perform .take s = .next t ∧ t.returned = s.returned ++ [.take xs] ∧
      xs.length = s.len ∧ (∀ j : Nat, j < s.len → xs[j]? = s.slot j) ∧
      t.len = 0 ∧ (∀ j : Nat, t.slot j = none) ∧
      t.cfg = s.cfg ∧ t.rxQ = s.rxQ ∧ t.ovfCnt = s.ovfCnt ∧ t.rxOverrun = s.rxOverrun ∧ t.txWire = s.txWire ∧
      LinkKept s t ∧ t.agenda = s.agenda ∧ t.turn = s.turn

/-- `PEEK` (42_output_buffer.md R164). The list returned is read from `returned`, the model's own record
(assumption 5). -/
def Obligations.PeekReturnsAllAndKeeps : Prop :=
  ∀ s : State, (∀ j : Nat, j < s.len → (s.slot j).isSome = true) →
    ∃ xs : List Byte, perform .peek s = .next { s with returned := s.returned ++ [.peek xs] } ∧
      xs.length = s.len ∧ ∀ j : Nat, j < s.len → xs[j]? = s.slot j

/-- 93_implementation_defined.md I1 says that a slot at an index from `len` on holds no value and that a model that
reads one faults; `TAKE` and `PEEK` themselves have no fault (42_output_buffer.md R163, R164). That a slot without
a value below `len` stops them is the model's choice (assumption 7). -/
def Obligations.UnreadableSlotStopsTheRead : Prop :=
  ∀ (s : State) (k : Nat), k < s.len → s.slot k = none → (∀ j : Nat, j < k → (s.slot j).isSome = true) →
    perform .take s = .fault (.unreadableSlot k) ∧ perform .peek s = .fault (.unreadableSlot k)

/-- 20_memory.md R57. The returned lists are read from the model's record of them (assumption 5). -/
def Obligations.ReadingTwice : Prop :=
  (∀ s : State, (∀ j : Nat, j < s.len → (s.slot j).isSome = true) →
    (∃ (xs : List Byte) (t u : State), perform .peek s = .next t ∧ perform .peek t = .next u ∧
      u.returned = s.returned ++ [.peek xs, .peek xs]) ∧
    (∃ (xs : List Byte) (t u : State), perform .take s = .next t ∧ perform .take t = .next u ∧
      u.returned = s.returned ++ [.take xs, .take []])) ∧
  (∀ (b : Byte) (q : List Byte) (s : State), s.rxQ = b :: b :: q →
    ∃ t u : State, perform .translate s = .next t ∧ perform .translate t = .next u ∧
      Appended (emission b) s t ∧ Appended (emission b) t u)

/-- `RESET` (70_reset_and_hazards.md R260; the spec's own decision D10). -/
def Obligations.ResetRestoresEveryField : Prop :=
  ∀ s : State, enabled .reset s = true ∧ ∃ t : State, perform .reset s = .next t ∧
    (∀ j : Nat, t.slot j = none) ∧ t.len = 0 ∧ t.rxQ = [] ∧ t.txHold = none ∧ t.rxOverrun = false ∧
    t.txOverrun = false ∧ t.ovfCnt = 0 ∧ t.txWire = [] ∧ t.notifyLog = [] ∧ t.cfg = s.cfg ∧
    readAll t = .ok []

/-- The table of 10_state.md R36 (the spec's own decision D10). -/
def Obligations.ResetStateHasTheResetValues : Prop :=
  (∀ j : Nat, State.reset.slot j = none) ∧ State.reset.len = 0 ∧ State.reset.rxQ = [] ∧ State.reset.txHold = none ∧
  State.reset.rxOverrun = false ∧ State.reset.txOverrun = false ∧ State.reset.ovfCnt = 0 ∧
  State.reset.txWire = [] ∧ State.reset.notifyLog = []

/-- An invariant that every step keeps, whichever operation of whichever agent it is (42_output_buffer.md R166;
10_state.md R20, R24, R26, R30). The clause on recorded faults is about the model's own record (assumption 6). -/
def Obligations.InvariantKeptByEveryStep : Prop :=
  ∀ s t : State, BlockInv s → step s = .next t → BlockInv t

/-- The three invariants hold right after reset (10_state.md R36), for every value of the open parameters of
00_scope.md R8. The clauses on recorded faults rest on the model's empty record at reset (assumption 6). -/
def Obligations.ResetHasTheInvariants : Prop :=
  BlockInv State.reset ∧ ResponsesAccounted State.reset ∧ OutboundFollowsResponses State.reset

/-- The canonical form of the slots (assumption 7), in every state, with no other premise. -/
def Obligations.CanonicalMemoryKeptByEveryStep : Prop :=
  ∀ s t : State, Memory.wf s.buf = true → step s = .next t → Memory.wf t.buf = true

/-- No enabled operation traps or blocks (60_exceptions.md R230; 20_memory.md R62; 40_link_receiver.md R99). For a
`TRANSLATE` or `TXDONE` that is not enabled the spec gives no step (00_scope.md R12); that `step` answers a next
state there, in which the turn has passed, is the model's choice (assumption 4). -/
def Obligations.InvariantStatesNeverStop : Prop :=
  ∀ s : State, BlockInv s → ∃ t : State, step s = .next t

/-- An accounting of control responses over every operation (43_control_signals.md R190, R195; 40_link_receiver.md
R96 to R98). It counts the model's record of faults (assumption 6). -/
def Obligations.ResponsesStayAccounted : Prop :=
  ∀ s t : State, ResponsesAccounted s → step s = .next t → ResponsesAccounted t

/-- The outbound link carries only control responses (30_encoding.md R78; 40_link_receiver.md R98). -/
def Obligations.OutboundStaysInResponseOrder : Prop :=
  ∀ s t : State, OutboundFollowsResponses s → step s = .next t → OutboundFollowsResponses t

/-- The sticky flags (10_state.md R30; 60_exceptions.md R232, R233). The clause on recorded faults is about the
model's own record (assumption 6). -/
def Obligations.FaultFlagsAreSticky : Prop :=
  ∀ s t : State, step s = .next t → nextOp s ≠ .reset →
    (s.rxOverrun = true → t.rxOverrun = true) ∧ (s.txOverrun = true → t.txOverrun = true) ∧
    s.faultLog <+: t.faultLog ∧
    (s.rxOverrun = false → t.rxOverrun = true →
      (∃ b : Byte, nextOp s = .rx b) ∧ s.cfg.rxDepth ≤ s.rxQ.length) ∧
    (s.txOverrun = false → t.txOverrun = true →
      nextOp s = .translate ∧ s.txHold ≠ none ∧
      ∃ (b : Byte) (q : List Byte), s.rxQ = b :: q ∧ (b = 0xC3#8 ∨ b = 0xB2#8 ∨ b = 0x0A#8))

/-- The model faults of 60_exceptions.md R232. The recorded bytes stand in `faultLog`, the model's own record
(assumption 6). -/
def Obligations.OverrunsRecordTheDiscardedByte : Prop :=
  (∀ (b : Byte) (s : State), s.cfg.rxDepth ≤ s.rxQ.length →
    ∃ t : State, perform (.rx b) s = .next t ∧ t.rxOverrun = true ∧
      t.faultLog = s.faultLog ++ [⟨.rxOverrun, b⟩]) ∧
  (∀ (b v w : Byte) (k : TriggerKind) (q : List Byte) (s : State),
    (b, v, k) ∈ ([(0xC3#8, 0x04#8, .clickOn), (0xB2#8, 0x0A#8, .clickOff), (0x0A#8, 0x10#8, .ack)] :
      List (Byte × Byte × TriggerKind)) →
    s.rxQ = b :: q → s.txHold = some w →
    ∃ t : State, perform .translate s = .next t ∧ t.txOverrun = true ∧ t.txHold = some w ∧
      t.faultLog = s.faultLog ++ [⟨.txOverrun, v⟩] ∧ t.notifyLog = s.notifyLog ++ [k] ∧
      Appended (emission b) s t)

/-- Each agent writes only the fields its operations name (60_exceptions.md R242; 10_state.md R24 to R30). -/
def Obligations.OperationsWriteOnlyTheirFields : Prop :=
  ∀ (op : Op) (s t : State), perform op s = .next t →
    t.cfg = s.cfg ∧
    (op ∉ [Op.translate, .take, .reset] → t.buf = s.buf ∧ t.len = s.len) ∧
    (op ∉ [Op.translate, .reset] → (∀ b : Byte, op ≠ .rx b) → t.rxQ = s.rxQ) ∧
    (op ∉ [Op.translate, .txDone, .reset] → t.txHold = s.txHold) ∧
    (op ∉ [Op.txDone, .reset] → t.txWire = s.txWire) ∧
    (op ∉ [Op.translate, .reset] → t.notifyLog = s.notifyLog ∧ t.txOverrun = s.txOverrun ∧ t.ovfCnt = s.ovfCnt) ∧
    (op ≠ .reset → (∀ b : Byte, op ≠ .rx b) → t.rxOverrun = s.rxOverrun)

/-- Bytes are processed in the order they were enqueued: arrivals go to the end, and the byte whose row runs is the
head (40_link_receiver.md R93). How the next operation is chosen is the model's choice (assumption 3). -/
def Obligations.BytesAreTranslatedInArrivalOrder : Prop :=
  (∀ s t : State, step s = .next t →
    t.rxQ =
      match nextOp s with
      | .rx b => if s.rxQ.length < s.cfg.rxDepth then s.rxQ ++ [b] else s.rxQ
      | .translate => s.rxQ.tail
      | .reset => []
      | _ => s.rxQ) ∧
  (∀ (s : State) (b : Byte) (q : List Byte), nextOp s = .translate → s.rxQ = b :: q →
    step s = exec (decodeByte b) { advance s with rxQ := q })

/-- The order invariant (42_output_buffer.md R167). The lists `TAKE` returned are read from the model's record of
them (assumption 5), which `RESET` empties. -/
def Obligations.DeliveredStreamGrowsInOrder : Prop :=
  ∀ s t : State, BlockInv s → step s = .next t →
    delivered t =
      match nextOp s with
      | .translate => delivered s ++ (s.rxQ.head?.toList.flatMap emission).take (s.cfg.cap - s.len)
      | .reset => []
      | _ => delivered s

/-- The machine of 44_marker_stream.md R211 (marker after marker and the final state: the spec's own decision D15). -/
def Obligations.ReadingFollowsTheTable : Prop :=
  (∀ y : Byte, readByte .idle y =
    if y = 0xF5#8 then (.shiftPend, none) else if y = 0xF6#8 then (.ctrlPend, none) else (.idle, some (.plain y))) ∧
  (∀ y : Byte, readByte .shiftPend y = (.idle, some (.shifted y))) ∧
  (∀ y : Byte, readByte .ctrlPend y = (.idle, some (.ctrl y))) ∧
  decodeStream [] = ([], .idle) ∧
  (∀ (ys : List Byte) (y : Byte), decodeStream (ys ++ [y]) =
    ((decodeStream ys).1 ++ (readByte (decodeStream ys).2 y).2.toList, (readByte (decodeStream ys).2 y).1))

/-- The producer's guarantee on complete streams (44_marker_stream.md R215). -/
def Obligations.EmissionsReadBackOneItemPerByte : Prop :=
  ∀ bs : List Byte, (∀ b ∈ bs, b ≠ 0xF5#8 ∧ b ≠ 0xF6#8) →
    decodeStream (bs.flatMap emission) = (bs.map itemOf, .idle)

/-- The last clause of 41_scan_translator.md R141. -/
def Obligations.EmissionStreamsTellTheBytes : Prop :=
  ∀ bs cs : List Byte, (∀ b ∈ bs, b ≠ 0xF5#8 ∧ b ≠ 0xF6#8) → (∀ c ∈ cs, c ≠ 0xF5#8 ∧ c ≠ 0xF6#8) →
    bs.flatMap emission = cs.flatMap emission → bs = cs

/-- The producer's guarantee (44_marker_stream.md R215) as an invariant that every step keeps, with the premises
the spec names for a byte that is translated: no received marker value, no byte lost to a full buffer
(70_reset_and_hazards.md R266). The stream is read from the model's record of what `TAKE` returned (assumption 5),
which `RESET` empties; a `TRANSLATE` with nothing received is a turn that passes (assumption 4). -/
def Obligations.LosslessTranslateReadsAsOneItem : Prop :=
  ∀ (s : State) (items : List Item), BlockInv s → decodeStream (delivered s) = (items, .idle) →
    (∀ (b : Byte) (q : List Byte), nextOp s = .translate → s.rxQ = b :: q → b ≠ 0xF5#8 ∧ b ≠ 0xF6#8 ∧ fits b s) →
    ∃ t : State, step s = .next t ∧ BlockInv t ∧ (nextOp s = .translate → t.rxQ = s.rxQ.tail) ∧
      decodeStream (delivered t) =
        match nextOp s with
        | .translate => (items ++ s.rxQ.head?.toList.map itemOf, .idle)
        | .reset => ([], .idle)
        | _ => (items, .idle)

/-- 44_marker_stream.md R216 and R213. -/
def Obligations.ReceivedMarkerReadsAsAMarker : Prop :=
  emission 0xF5#8 ++ emission 0x61#8 = emission 0x41#8 ∧
  decodeStream (emission 0xF5#8 ++ emission 0x61#8) = ([.shifted 0x61#8], .idle) ∧
  emission 0xF6#8 ++ emission 0x6A#8 = emission 0x0A#8 ∧
  decodeStream [0xF5#8, 0xF6#8] = ([.shifted 0xF6#8], .idle)

/-- `CONSUMER_CARRY` (00_scope.md R8, 44_marker_stream.md R214): both choices of the open parameter. -/
def Obligations.CarryDecidesHowTakenListsRead : Prop :=
  (∀ (q : Reading) (ls : List (List Byte)), readLists true q ls = decodeFrom q ls.flatten) ∧
  (∀ ls : List (List Byte), (readLists false .idle ls).1 = ls.flatMap fun ys => (decodeStream ys).1)

/-- The handling of a byte never removes or rewrites a stored byte (42_output_buffer.md R161, R162) and writes only
what 41_scan_translator.md R111 lists. -/
def Obligations.HandlingLeavesTheRestAlone : Prop :=
  ∀ (i : Instr) (s : State), ∃ t : State, exec i s = .next t ∧ HandlerKeeps s t ∧
    s.len ≤ t.len ∧ t.len ≤ s.len + (emission (opcode i)).length ∧ (s.len ≤ s.cfg.cap → t.len ≤ s.cfg.cap) ∧
    (∀ j : Nat, ¬ (s.len ≤ j ∧ j < t.len) → t.slot j = s.slot j)

/-- The derived status values (10_state.md R32) and the receive interrupt, which a `TRANSLATE` clears byte by byte
(60_exceptions.md R234). What `TAKE` returned is read from the model's record (assumption 5). -/
def Obligations.StatusValuesAreDerived : Prop :=
  ∀ s : State,
    (s.full = true ↔ s.len = s.cfg.cap) ∧ (s.empty = true ↔ s.len = 0) ∧
    (s.rxPending = true ↔ s.rxQ ≠ []) ∧ enabled .translate s = s.rxPending ∧
    (s.full = true → ∀ i : Instr, ∃ t : State, exec i s = .next t ∧ t.len = s.len ∧ ∀ j : Nat, t.slot j = s.slot j) ∧
    (s.empty = true → ∃ t : State, perform .take s = .next t ∧ t.returned = s.returned ++ [.take []]) ∧
    (1 ≤ s.cfg.rxDepth → ∀ b : Byte, ∃ t : State, perform (.rx b) s = .next t ∧ t.rxPending = true) ∧
    (∀ (b : Byte) (q : List Byte), s.rxQ = b :: q →
      ∃ t : State, perform .translate s = .next t ∧ t.rxPending = !q.isEmpty)
end

