-- ==== Sys2Proof/Laws/MarkerStream.lean ====
section
/-! SUPPORT. The reference reading of a byte sequence, composed. -/

namespace Sys2Proof.Machine

/-- Reading two sequences one after the other is reading the second from the state the first leaves. -/
theorem decodeFrom_append (q : Reading) (xs ys : List Byte) :
    decodeFrom q (xs ++ ys) =
      ((decodeFrom q xs).1 ++ (decodeFrom (decodeFrom q xs).2 ys).1, (decodeFrom (decodeFrom q xs).2 ys).2) := by
  induction xs generalizing q with
  | nil => rfl
  | cons x rest ih => simp only [List.cons_append, decodeFrom, ih, List.append_assoc]

/-- A byte that is no marker reads as itself from `IDLE`. -/
theorem readByte_plain {y : Byte} (h : isMarker y = false) : readByte .idle y = (.idle, some (.plain y)) := by
  simp only [isMarker, Bool.or_eq_false_iff, beq_eq_false_iff_ne, ne_eq] at h
  simp [readByte, h.1, h.2]

end Sys2Proof.Machine
end

