-- ==== Sys2Proof/Laws/State.lean ====
section
/-! SUPPORT. One lemma per field for each named update of the state: what the update writes and what it leaves. -/

namespace Sys2Proof.Machine

/-! ### `memWrite` -/

@[simp] theorem memWrite_cfg (i : Nat) (v : Byte) (s : State) : (memWrite i v s).cfg = s.cfg := rfl

@[simp] theorem memWrite_buf (i : Nat) (v : Byte) (s : State) : (memWrite i v s).buf = Memory.store s.buf i v := rfl

@[simp] theorem memWrite_len (i : Nat) (v : Byte) (s : State) : (memWrite i v s).len = s.len := rfl

@[simp] theorem memWrite_rxQ (i : Nat) (v : Byte) (s : State) : (memWrite i v s).rxQ = s.rxQ := rfl

@[simp] theorem memWrite_txHold (i : Nat) (v : Byte) (s : State) : (memWrite i v s).txHold = s.txHold := rfl

@[simp] theorem memWrite_rxOverrun (i : Nat) (v : Byte) (s : State) : (memWrite i v s).rxOverrun = s.rxOverrun := rfl

@[simp] theorem memWrite_txOverrun (i : Nat) (v : Byte) (s : State) : (memWrite i v s).txOverrun = s.txOverrun := rfl

@[simp] theorem memWrite_ovfCnt (i : Nat) (v : Byte) (s : State) : (memWrite i v s).ovfCnt = s.ovfCnt := rfl

@[simp] theorem memWrite_txWire (i : Nat) (v : Byte) (s : State) : (memWrite i v s).txWire = s.txWire := rfl

@[simp] theorem memWrite_notifyLog (i : Nat) (v : Byte) (s : State) : (memWrite i v s).notifyLog = s.notifyLog := rfl

@[simp] theorem memWrite_faultLog (i : Nat) (v : Byte) (s : State) : (memWrite i v s).faultLog = s.faultLog := rfl

@[simp] theorem memWrite_returned (i : Nat) (v : Byte) (s : State) : (memWrite i v s).returned = s.returned := rfl

@[simp] theorem memWrite_agenda (i : Nat) (v : Byte) (s : State) : (memWrite i v s).agenda = s.agenda := rfl

@[simp] theorem memWrite_turn (i : Nat) (v : Byte) (s : State) : (memWrite i v s).turn = s.turn := rfl

/-! ### `notify` -/

@[simp] theorem notify_cfg (k : TriggerKind) (s : State) : (notify k s).cfg = s.cfg := rfl

@[simp] theorem notify_buf (k : TriggerKind) (s : State) : (notify k s).buf = s.buf := rfl

@[simp] theorem notify_len (k : TriggerKind) (s : State) : (notify k s).len = s.len := rfl

@[simp] theorem notify_rxQ (k : TriggerKind) (s : State) : (notify k s).rxQ = s.rxQ := rfl

@[simp] theorem notify_txHold (k : TriggerKind) (s : State) : (notify k s).txHold = s.txHold := rfl

@[simp] theorem notify_rxOverrun (k : TriggerKind) (s : State) : (notify k s).rxOverrun = s.rxOverrun := rfl

@[simp] theorem notify_txOverrun (k : TriggerKind) (s : State) : (notify k s).txOverrun = s.txOverrun := rfl

@[simp] theorem notify_ovfCnt (k : TriggerKind) (s : State) : (notify k s).ovfCnt = s.ovfCnt := rfl

@[simp] theorem notify_txWire (k : TriggerKind) (s : State) : (notify k s).txWire = s.txWire := rfl

@[simp] theorem notify_notifyLog (k : TriggerKind) (s : State) : (notify k s).notifyLog = s.notifyLog ++ [k] := rfl

@[simp] theorem notify_faultLog (k : TriggerKind) (s : State) : (notify k s).faultLog = s.faultLog := rfl

@[simp] theorem notify_returned (k : TriggerKind) (s : State) : (notify k s).returned = s.returned := rfl

@[simp] theorem notify_agenda (k : TriggerKind) (s : State) : (notify k s).agenda = s.agenda := rfl

@[simp] theorem notify_turn (k : TriggerKind) (s : State) : (notify k s).turn = s.turn := rfl

/-! ### `raiseFault .rxOverrun` -/

@[simp] theorem raiseRx_cfg (b : Byte) (s : State) : (raiseFault .rxOverrun b s).cfg = s.cfg := rfl

@[simp] theorem raiseRx_buf (b : Byte) (s : State) : (raiseFault .rxOverrun b s).buf = s.buf := rfl

@[simp] theorem raiseRx_len (b : Byte) (s : State) : (raiseFault .rxOverrun b s).len = s.len := rfl

@[simp] theorem raiseRx_rxQ (b : Byte) (s : State) : (raiseFault .rxOverrun b s).rxQ = s.rxQ := rfl

@[simp] theorem raiseRx_txHold (b : Byte) (s : State) : (raiseFault .rxOverrun b s).txHold = s.txHold := rfl

@[simp] theorem raiseRx_rxOverrun (b : Byte) (s : State) : (raiseFault .rxOverrun b s).rxOverrun = true := rfl

@[simp] theorem raiseRx_txOverrun (b : Byte) (s : State) : (raiseFault .rxOverrun b s).txOverrun = s.txOverrun := rfl

@[simp] theorem raiseRx_ovfCnt (b : Byte) (s : State) : (raiseFault .rxOverrun b s).ovfCnt = s.ovfCnt := rfl

@[simp] theorem raiseRx_txWire (b : Byte) (s : State) : (raiseFault .rxOverrun b s).txWire = s.txWire := rfl

@[simp] theorem raiseRx_notifyLog (b : Byte) (s : State) : (raiseFault .rxOverrun b s).notifyLog = s.notifyLog := rfl

@[simp] theorem raiseRx_faultLog (b : Byte) (s : State) : (raiseFault .rxOverrun b s).faultLog = s.faultLog ++ [⟨.rxOverrun, b⟩] := rfl

@[simp] theorem raiseRx_returned (b : Byte) (s : State) : (raiseFault .rxOverrun b s).returned = s.returned := rfl

@[simp] theorem raiseRx_agenda (b : Byte) (s : State) : (raiseFault .rxOverrun b s).agenda = s.agenda := rfl

@[simp] theorem raiseRx_turn (b : Byte) (s : State) : (raiseFault .rxOverrun b s).turn = s.turn := rfl

/-! ### `raiseFault .txOverrun` -/

@[simp] theorem raiseTx_cfg (b : Byte) (s : State) : (raiseFault .txOverrun b s).cfg = s.cfg := rfl

@[simp] theorem raiseTx_buf (b : Byte) (s : State) : (raiseFault .txOverrun b s).buf = s.buf := rfl

@[simp] theorem raiseTx_len (b : Byte) (s : State) : (raiseFault .txOverrun b s).len = s.len := rfl

@[simp] theorem raiseTx_rxQ (b : Byte) (s : State) : (raiseFault .txOverrun b s).rxQ = s.rxQ := rfl

@[simp] theorem raiseTx_txHold (b : Byte) (s : State) : (raiseFault .txOverrun b s).txHold = s.txHold := rfl

@[simp] theorem raiseTx_rxOverrun (b : Byte) (s : State) : (raiseFault .txOverrun b s).rxOverrun = s.rxOverrun := rfl

@[simp] theorem raiseTx_txOverrun (b : Byte) (s : State) : (raiseFault .txOverrun b s).txOverrun = true := rfl

@[simp] theorem raiseTx_ovfCnt (b : Byte) (s : State) : (raiseFault .txOverrun b s).ovfCnt = s.ovfCnt := rfl

@[simp] theorem raiseTx_txWire (b : Byte) (s : State) : (raiseFault .txOverrun b s).txWire = s.txWire := rfl

@[simp] theorem raiseTx_notifyLog (b : Byte) (s : State) : (raiseFault .txOverrun b s).notifyLog = s.notifyLog := rfl

@[simp] theorem raiseTx_faultLog (b : Byte) (s : State) : (raiseFault .txOverrun b s).faultLog = s.faultLog ++ [⟨.txOverrun, b⟩] := rfl

@[simp] theorem raiseTx_returned (b : Byte) (s : State) : (raiseFault .txOverrun b s).returned = s.returned := rfl

@[simp] theorem raiseTx_agenda (b : Byte) (s : State) : (raiseFault .txOverrun b s).agenda = s.agenda := rfl

@[simp] theorem raiseTx_turn (b : Byte) (s : State) : (raiseFault .txOverrun b s).turn = s.turn := rfl

/-! ### `countDrop` -/

@[simp] theorem countDrop_cfg (s : State) : (countDrop s).cfg = s.cfg := by unfold countDrop; split <;> rfl

@[simp] theorem countDrop_buf (s : State) : (countDrop s).buf = s.buf := by unfold countDrop; split <;> rfl

@[simp] theorem countDrop_len (s : State) : (countDrop s).len = s.len := by unfold countDrop; split <;> rfl

@[simp] theorem countDrop_rxQ (s : State) : (countDrop s).rxQ = s.rxQ := by unfold countDrop; split <;> rfl

@[simp] theorem countDrop_txHold (s : State) : (countDrop s).txHold = s.txHold := by unfold countDrop; split <;> rfl

@[simp] theorem countDrop_rxOverrun (s : State) : (countDrop s).rxOverrun = s.rxOverrun := by unfold countDrop; split <;> rfl

@[simp] theorem countDrop_txOverrun (s : State) : (countDrop s).txOverrun = s.txOverrun := by unfold countDrop; split <;> rfl

@[simp] theorem countDrop_ovfCnt (s : State) : (countDrop s).ovfCnt = if s.cfg.ovfCntW = 0 then s.ovfCnt else min (s.ovfCnt + 1) (ovfMax s.cfg) := by unfold countDrop; split <;> rfl

@[simp] theorem countDrop_txWire (s : State) : (countDrop s).txWire = s.txWire := by unfold countDrop; split <;> rfl

@[simp] theorem countDrop_notifyLog (s : State) : (countDrop s).notifyLog = s.notifyLog := by unfold countDrop; split <;> rfl

@[simp] theorem countDrop_faultLog (s : State) : (countDrop s).faultLog = s.faultLog := by unfold countDrop; split <;> rfl

@[simp] theorem countDrop_returned (s : State) : (countDrop s).returned = s.returned := by unfold countDrop; split <;> rfl

@[simp] theorem countDrop_agenda (s : State) : (countDrop s).agenda = s.agenda := by unfold countDrop; split <;> rfl

@[simp] theorem countDrop_turn (s : State) : (countDrop s).turn = s.turn := by unfold countDrop; split <;> rfl

/-! ### `append` -/

@[simp] theorem append_cfg (v : Byte) (s : State) : (append v s).cfg = s.cfg := by unfold append; split <;> simp

@[simp] theorem append_buf (v : Byte) (s : State) : (append v s).buf = if s.len < s.cfg.cap then Memory.store s.buf s.len v else s.buf := by unfold append; split <;> simp

@[simp] theorem append_len (v : Byte) (s : State) : (append v s).len = if s.len < s.cfg.cap then s.len + 1 else s.len := by unfold append; split <;> simp

@[simp] theorem append_rxQ (v : Byte) (s : State) : (append v s).rxQ = s.rxQ := by unfold append; split <;> simp

@[simp] theorem append_txHold (v : Byte) (s : State) : (append v s).txHold = s.txHold := by unfold append; split <;> simp

@[simp] theorem append_rxOverrun (v : Byte) (s : State) : (append v s).rxOverrun = s.rxOverrun := by unfold append; split <;> simp

@[simp] theorem append_txOverrun (v : Byte) (s : State) : (append v s).txOverrun = s.txOverrun := by unfold append; split <;> simp

@[simp] theorem append_ovfCnt (v : Byte) (s : State) : (append v s).ovfCnt = if s.len < s.cfg.cap then s.ovfCnt else (countDrop s).ovfCnt := by unfold append; split <;> simp

@[simp] theorem append_txWire (v : Byte) (s : State) : (append v s).txWire = s.txWire := by unfold append; split <;> simp

@[simp] theorem append_notifyLog (v : Byte) (s : State) : (append v s).notifyLog = s.notifyLog := by unfold append; split <;> simp

@[simp] theorem append_faultLog (v : Byte) (s : State) : (append v s).faultLog = s.faultLog := by unfold append; split <;> simp

@[simp] theorem append_returned (v : Byte) (s : State) : (append v s).returned = s.returned := by unfold append; split <;> simp

@[simp] theorem append_agenda (v : Byte) (s : State) : (append v s).agenda = s.agenda := by unfold append; split <;> simp

@[simp] theorem append_turn (v : Byte) (s : State) : (append v s).turn = s.turn := by unfold append; split <;> simp

/-! ### `tx` -/

@[simp] theorem tx_cfg (v : Byte) (s : State) : (tx v s).cfg = s.cfg := by unfold tx; split <;> simp [*]

@[simp] theorem tx_buf (v : Byte) (s : State) : (tx v s).buf = s.buf := by unfold tx; split <;> simp [*]

@[simp] theorem tx_len (v : Byte) (s : State) : (tx v s).len = s.len := by unfold tx; split <;> simp [*]

@[simp] theorem tx_rxQ (v : Byte) (s : State) : (tx v s).rxQ = s.rxQ := by unfold tx; split <;> simp [*]

@[simp] theorem tx_txHold (v : Byte) (s : State) : (tx v s).txHold = some (s.txHold.getD v) := by unfold tx; split <;> simp [*]

@[simp] theorem tx_rxOverrun (v : Byte) (s : State) : (tx v s).rxOverrun = s.rxOverrun := by unfold tx; split <;> simp [*]

@[simp] theorem tx_txOverrun (v : Byte) (s : State) : (tx v s).txOverrun = (s.txOverrun || s.txHold.isSome) := by unfold tx; split <;> simp [*]

@[simp] theorem tx_ovfCnt (v : Byte) (s : State) : (tx v s).ovfCnt = s.ovfCnt := by unfold tx; split <;> simp [*]

@[simp] theorem tx_txWire (v : Byte) (s : State) : (tx v s).txWire = s.txWire := by unfold tx; split <;> simp [*]

@[simp] theorem tx_notifyLog (v : Byte) (s : State) : (tx v s).notifyLog = s.notifyLog := by unfold tx; split <;> simp [*]

@[simp] theorem tx_faultLog (v : Byte) (s : State) : (tx v s).faultLog = if s.txHold.isSome then s.faultLog ++ [⟨.txOverrun, v⟩] else s.faultLog := by unfold tx; split <;> simp [*]

@[simp] theorem tx_returned (v : Byte) (s : State) : (tx v s).returned = s.returned := by unfold tx; split <;> simp [*]

@[simp] theorem tx_agenda (v : Byte) (s : State) : (tx v s).agenda = s.agenda := by unfold tx; split <;> simp [*]

@[simp] theorem tx_turn (v : Byte) (s : State) : (tx v s).turn = s.turn := by unfold tx; split <;> simp [*]

/-! ### `rx` -/

@[simp] theorem rx_cfg (b : Byte) (s : State) : (rx b s).cfg = s.cfg := by unfold rx; split <;> simp_all

@[simp] theorem rx_buf (b : Byte) (s : State) : (rx b s).buf = s.buf := by unfold rx; split <;> simp_all

@[simp] theorem rx_len (b : Byte) (s : State) : (rx b s).len = s.len := by unfold rx; split <;> simp_all

@[simp] theorem rx_rxQ (b : Byte) (s : State) : (rx b s).rxQ = if s.rxQ.length < s.cfg.rxDepth then s.rxQ ++ [b] else s.rxQ := by unfold rx; split <;> simp_all

@[simp] theorem rx_txHold (b : Byte) (s : State) : (rx b s).txHold = s.txHold := by unfold rx; split <;> simp_all

@[simp] theorem rx_rxOverrun (b : Byte) (s : State) : (rx b s).rxOverrun = (s.rxOverrun || decide (s.cfg.rxDepth ≤ s.rxQ.length)) := by unfold rx; split <;> simp_all

@[simp] theorem rx_txOverrun (b : Byte) (s : State) : (rx b s).txOverrun = s.txOverrun := by unfold rx; split <;> simp_all

@[simp] theorem rx_ovfCnt (b : Byte) (s : State) : (rx b s).ovfCnt = s.ovfCnt := by unfold rx; split <;> simp_all

@[simp] theorem rx_txWire (b : Byte) (s : State) : (rx b s).txWire = s.txWire := by unfold rx; split <;> simp_all

@[simp] theorem rx_notifyLog (b : Byte) (s : State) : (rx b s).notifyLog = s.notifyLog := by unfold rx; split <;> simp_all

@[simp] theorem rx_faultLog (b : Byte) (s : State) : (rx b s).faultLog = if s.rxQ.length < s.cfg.rxDepth then s.faultLog else s.faultLog ++ [⟨.rxOverrun, b⟩] := by unfold rx; split <;> simp_all

@[simp] theorem rx_returned (b : Byte) (s : State) : (rx b s).returned = s.returned := by unfold rx; split <;> simp_all

@[simp] theorem rx_agenda (b : Byte) (s : State) : (rx b s).agenda = s.agenda := by unfold rx; split <;> simp_all

@[simp] theorem rx_turn (b : Byte) (s : State) : (rx b s).turn = s.turn := by unfold rx; split <;> simp_all

/-! ### `resetBlock` -/

@[simp] theorem resetBlock_cfg (s : State) : (resetBlock s).cfg = s.cfg := rfl

@[simp] theorem resetBlock_buf (s : State) : (resetBlock s).buf = [] := rfl

@[simp] theorem resetBlock_len (s : State) : (resetBlock s).len = 0 := rfl

@[simp] theorem resetBlock_rxQ (s : State) : (resetBlock s).rxQ = [] := rfl

@[simp] theorem resetBlock_txHold (s : State) : (resetBlock s).txHold = none := rfl

@[simp] theorem resetBlock_rxOverrun (s : State) : (resetBlock s).rxOverrun = false := rfl

@[simp] theorem resetBlock_txOverrun (s : State) : (resetBlock s).txOverrun = false := rfl

@[simp] theorem resetBlock_ovfCnt (s : State) : (resetBlock s).ovfCnt = 0 := rfl

@[simp] theorem resetBlock_txWire (s : State) : (resetBlock s).txWire = [] := rfl

@[simp] theorem resetBlock_notifyLog (s : State) : (resetBlock s).notifyLog = [] := rfl

@[simp] theorem resetBlock_faultLog (s : State) : (resetBlock s).faultLog = [] := rfl

@[simp] theorem resetBlock_returned (s : State) : (resetBlock s).returned = [] := rfl

@[simp] theorem resetBlock_agenda (s : State) : (resetBlock s).agenda = s.agenda := rfl

@[simp] theorem resetBlock_turn (s : State) : (resetBlock s).turn = s.turn := rfl

/-! ### `advance` -/

@[simp] theorem advance_cfg (s : State) : (advance s).cfg = s.cfg := by unfold advance; split <;> simp [*]

@[simp] theorem advance_buf (s : State) : (advance s).buf = s.buf := by unfold advance; split <;> simp [*]

@[simp] theorem advance_len (s : State) : (advance s).len = s.len := by unfold advance; split <;> simp [*]

@[simp] theorem advance_rxQ (s : State) : (advance s).rxQ = s.rxQ := by unfold advance; split <;> simp [*]

@[simp] theorem advance_txHold (s : State) : (advance s).txHold = s.txHold := by unfold advance; split <;> simp [*]

@[simp] theorem advance_rxOverrun (s : State) : (advance s).rxOverrun = s.rxOverrun := by unfold advance; split <;> simp [*]

@[simp] theorem advance_txOverrun (s : State) : (advance s).txOverrun = s.txOverrun := by unfold advance; split <;> simp [*]

@[simp] theorem advance_ovfCnt (s : State) : (advance s).ovfCnt = s.ovfCnt := by unfold advance; split <;> simp [*]

@[simp] theorem advance_txWire (s : State) : (advance s).txWire = s.txWire := by unfold advance; split <;> simp [*]

@[simp] theorem advance_notifyLog (s : State) : (advance s).notifyLog = s.notifyLog := by unfold advance; split <;> simp [*]

@[simp] theorem advance_faultLog (s : State) : (advance s).faultLog = s.faultLog := by unfold advance; split <;> simp [*]

@[simp] theorem advance_returned (s : State) : (advance s).returned = s.returned := by unfold advance; split <;> simp [*]

@[simp] theorem advance_agenda (s : State) : (advance s).agenda = s.agenda.tail := by unfold advance; split <;> simp [*]

@[simp] theorem advance_turn (s : State) : (advance s).turn = if s.agenda.isEmpty then s.turn + 1 else s.turn := by unfold advance; split <;> simp [*]

@[simp] theorem leaveHandler_eq (s : State) : leaveHandler s = s := rfl

@[simp] theorem advance_slot (s : State) (i : Nat) : (advance s).slot i = s.slot i := by simp [State.slot]

end Sys2Proof.Machine
end

