-- ==== Sys2Proof/Laws/Memory.lean ====
section
/-! SUPPORT. The slots of the OutputBuffer: read after write, the canonical form, and reading in order. -/

namespace Sys2Proof.Machine

/-- A slot reads as the byte last put there, and a write leaves every other slot alone. -/
theorem Memory.lookup_store (m : List Host.Cell) (i : Nat) (v : Byte) (j : Nat) :
    Memory.lookup (Memory.store m i v) j = if j = i then some v else Memory.lookup m j := by
  induction m with
  | nil => simp [Memory.store, Memory.lookup]
  | cons c rest ih =>
    obtain ⟨k, w⟩ := c
    simp only [Memory.store]
    split
    · simp [Memory.lookup]
    · split
      · subst_vars
        by_cases h : j = k <;> simp [Memory.lookup, h]
      · by_cases h : j = k
        · subst h
          have : ¬ j = i := fun e => by omega
          simp [Memory.lookup, this]
        · simp [Memory.lookup, h, ih]

theorem Memory.store_keys (m : List Host.Cell) (i : Nat) (v : Byte) (k : Nat) :
    k ∈ (Memory.store m i v).map Prod.fst ↔ k = i ∨ k ∈ m.map Prod.fst := by
  induction m with
  | nil => simp [Memory.store]
  | cons c rest ih =>
    obtain ⟨j, w⟩ := c
    simp only [Memory.store]
    split
    · simp
    · split
      · subst_vars; simp
      · simp only [List.map_cons, List.mem_cons, ih]; tauto

/-- A write keeps the canonical form. -/
theorem Memory.store_wf (m : List Host.Cell) (i : Nat) (v : Byte) (h : Memory.wf m = true) :
    Memory.wf (Memory.store m i v) = true := by
  simp only [Memory.wf, decide_eq_true_eq] at *
  induction m with
  | nil => simp [Memory.store]
  | cons c rest ih =>
    obtain ⟨j, w⟩ := c
    simp only [List.map_cons, List.pairwise_cons] at h
    simp only [Memory.store]
    split
    · rename_i hij
      simp only [List.map_cons, List.pairwise_cons, List.mem_cons, forall_eq_or_imp]
      exact ⟨⟨hij, fun a ha => lt_trans hij (h.1 a ha)⟩, h.1, h.2⟩
    · split
      · subst_vars; simpa using h
      · simp only [List.map_cons, List.pairwise_cons]
        refine ⟨fun a ha => ?_, ih h.2⟩
        rcases (Memory.store_keys rest i v a).1 ha with rfl | ha
        · omega
        · exact h.1 a ha

/-- The empty buffer, the one reset and `TAKE` leave, is in canonical form. -/
theorem Memory.wf_nil : Memory.wf [] = true := by decide

theorem reset_buf_wf : Memory.wf State.reset.buf = true := Memory.wf_nil

theorem append_wf (v : Byte) (s : State) (h : Memory.wf s.buf = true) : Memory.wf (append v s).buf = true := by
  rw [append_buf]; split
  · exact Memory.store_wf _ _ _ h
  · exact h

/-- Where the slots are `0 .. n-1`, putting a byte at `n` puts it at the end. -/
theorem Memory.store_at_end (m : List Host.Cell) (n : Nat) (v : Byte) (h : ∀ k ∈ m.map Prod.fst, k < n) :
    Memory.store m n v = m ++ [(n, v)] := by
  induction m with
  | nil => rfl
  | cons c rest ih =>
    obtain ⟨j, w⟩ := c
    simp only [List.map_cons, List.mem_cons, forall_eq_or_imp] at h
    have hj : j < n := h.1
    simp only [Memory.store]
    rw [if_neg (by omega), if_neg (by omega), ih h.2]
    rfl

theorem Memory.lookup_isSome (m : List Host.Cell) (i : Nat) :
    (Memory.lookup m i).isSome = true ↔ i ∈ m.map Prod.fst := by
  induction m with
  | nil => simp [Memory.lookup]
  | cons c rest ih =>
    obtain ⟨j, w⟩ := c
    by_cases h : i = j
    · simp [Memory.lookup, h]
    · simp only [Memory.lookup, h, if_false, ih, List.map_cons, List.mem_cons, false_or]

/-- Exactly the slots below `len` hold bytes, in the terms of one slot's read (42_output_buffer.md R166). -/
theorem slot_isSome_of_keys {s : State} (h : s.buf.map Prod.fst = List.range s.len) (i : Nat) :
    (s.slot i).isSome = true ↔ i < s.len := by
  rw [State.slot, Memory.lookup_isSome, h, List.mem_range]

/-- `MemRead` of a slot below `len` that holds a byte. -/
theorem memRead_ok {s : State} {i : Nat} {v : Byte} (hi : i < s.len) (h : s.slot i = some v) :
    memRead s i = .ok v := by
  simp [memRead, hi, h]

/-- `MemRead` answers a fault exactly for a slot that holds no value a model may read. -/
theorem memRead_error {s : State} {i : Nat} (h : s.len ≤ i ∨ s.slot i = none) :
    memRead s i = .error (.unreadableSlot i) := by
  unfold memRead
  split
  · rcases h with h | h
    · omega
    · simp [h]
  · rfl

/-- Reading slots that all hold bytes gives them in order. -/
theorem readFrom_ok {s : State} (n i : Nat) (hlen : i + n ≤ s.len) (h : ∀ j, i ≤ j → j < i + n → (s.slot j).isSome = true) :
    readFrom s i n = .ok ((List.range' i n).filterMap s.slot) := by
  induction n generalizing i with
  | zero => simp [readFrom]
  | succ n ih =>
    have h0 := h i (le_refl i) (by omega)
    obtain ⟨v, hv⟩ := Option.isSome_iff_exists.1 h0
    have ih' := ih (i + 1) (by omega) (fun j h1 h2 => h j (by omega) (by omega))
    simp only [readFrom, memRead_ok (by omega) hv, ih', List.range'_succ, List.filterMap_cons, hv]

/-- Reading stops at the first slot that holds no byte. -/
theorem readFrom_error {s : State} (n i k : Nat) (hlen : i + n ≤ s.len) (hk : k < n)
    (h : ∀ j, i ≤ j → j < i + k → (s.slot j).isSome = true) (hn : s.slot (i + k) = none) :
    readFrom s i n = .error (.unreadableSlot (i + k)) := by
  induction n generalizing i k with
  | zero => omega
  | succ n ih =>
    cases k with
    | zero =>
      have h0 : memRead s i = .error (.unreadableSlot i) := memRead_error (Or.inr hn)
      simp only [readFrom, h0]; rfl
    | succ k =>
      obtain ⟨v, hv⟩ := Option.isSome_iff_exists.1 (h i (le_refl i) (by omega))
      have hn' : s.slot (i + 1 + k) = none := by rw [← hn]; congr 1; omega
      have ih' := ih (i + 1) k (by omega) (by omega) (fun j h1 h2 => h j (by omega) (by omega)) hn'
      simp only [readFrom, memRead_ok (by omega) hv, ih']
      congr 2; omega

end Sys2Proof.Machine
end

