-- ==== Sys2Proof/Laws/Ops.lean ====
section
/-! SUPPORT. What each shared operation can do, said once: appends, the control step, the handling of a byte, the reads
of the consumer. -/

namespace Sys2Proof.Machine

/-- The open parameters are in their ranges, whatever they are (00_scope.md R8). -/
theorem params_wellFormed : Config.params.wellFormed = true := by
  simp only [Params.wellFormed, Bool.and_eq_true, decide_eq_true_eq]
  exact ⟨⟨Nat.succ_le_succ (Nat.zero_le _), Nat.succ_le_succ (Nat.zero_le _)⟩,
    Nat.le_of_lt_succ (Nat.mod_lt _ (by decide))⟩

/-! ### Appends -/

/-- One append in terms of one slot's read. -/
theorem append_slot (v : Byte) (s : State) (j : Nat) :
    (append v s).slot j = if s.len < s.cfg.cap ∧ j = s.len then some v else s.slot j := by
  simp only [State.slot, append_buf]
  by_cases h : s.len < s.cfg.cap
  · simp [h, Memory.lookup_store]
  · simp [h]

/-- Every field but the buffer, its length and the counter is as before a list of appends. -/
theorem appendAll_keeps (ys : List Byte) (s : State) :
    HandlerKeeps s (appendAll ys s) ∧ LinkKept s (appendAll ys s) := by
  induction ys generalizing s with
  | nil => simp [appendAll, HandlerKeeps, LinkKept]
  | cons v vs ih =>
    have := ih (append v s)
    simpa [appendAll, HandlerKeeps, LinkKept] using this

@[simp] theorem appendAll_cfg (ys : List Byte) (s : State) : (appendAll ys s).cfg = s.cfg :=
  (appendAll_keeps ys s).1.1

theorem appendAll_len (ys : List Byte) (s : State) :
    (appendAll ys s).len = s.len + min ys.length (s.cfg.cap - s.len) := by
  induction ys generalizing s with
  | nil => simp [appendAll]
  | cons v vs ih =>
    rw [appendAll, ih, append_len, append_cfg, List.length_cons]
    split <;> omega

theorem appendAll_slot (ys : List Byte) (s : State) (j : Nat) :
    (appendAll ys s).slot j =
      if s.len ≤ j ∧ j < (appendAll ys s).len then ys[j - s.len]? else s.slot j := by
  induction ys generalizing s with
  | nil => rw [if_neg (by simp only [appendAll]; omega), appendAll]
  | cons v vs ih =>
    have hl := appendAll_len vs (append v s)
    change (appendAll vs (append v s)).slot j =
      if s.len ≤ j ∧ j < (appendAll vs (append v s)).len then (v :: vs)[j - s.len]? else s.slot j
    rw [ih (append v s), append_slot, append_len]
    rw [append_len, append_cfg] at hl
    generalize (appendAll vs (append v s)).len = n at *
    by_cases h : s.len < s.cfg.cap
    · rw [if_pos h] at *
      by_cases hj : j = s.len
      · subst hj
        rw [if_neg (by omega), if_pos ⟨h, rfl⟩, if_pos (by omega), Nat.sub_self, List.getElem?_cons_zero]
      · rw [if_neg (show ¬ (s.len < s.cfg.cap ∧ j = s.len) from fun e => hj e.2)]
        by_cases h1 : s.len + 1 ≤ j ∧ j < n
        · have : j - s.len = (j - (s.len + 1)) + 1 := by omega
          rw [if_pos h1, if_pos (by omega), this, List.getElem?_cons_succ]
        · rw [if_neg h1, if_neg (by omega)]
    · rw [if_neg h] at *
      have h1 : ¬ (s.len ≤ j ∧ j < n) := by omega
      rw [if_neg h1, if_neg h1, if_neg (show ¬ (s.len < s.cfg.cap ∧ j = s.len) from fun e => h e.1)]

theorem appendAll_ovfCnt (ys : List Byte) (s : State) :
    (appendAll ys s).ovfCnt =
      if s.cfg.ovfCntW = 0 ∨ ys.length ≤ s.cfg.cap - s.len then s.ovfCnt
      else min (s.ovfCnt + (ys.length - (s.cfg.cap - s.len))) (2 ^ s.cfg.ovfCntW - 1) := by
  induction ys generalizing s with
  | nil => simp [appendAll]
  | cons v vs ih =>
    rw [appendAll, ih, append_ovfCnt, append_len, append_cfg, countDrop_ovfCnt, List.length_cons, ovfMax]
    by_cases hW : s.cfg.ovfCntW = 0
    · simp [hW]
    · by_cases h : s.len < s.cfg.cap
      · simp only [h, if_true, hW, false_or]
        by_cases h2 : vs.length ≤ s.cfg.cap - (s.len + 1)
        · rw [if_pos h2, if_pos (by omega)]
        · rw [if_neg h2, if_neg (by omega)]
          congr 2; omega
      · simp only [h, if_false, hW, false_or]
        rw [if_neg (show ¬ vs.length + 1 ≤ s.cfg.cap - s.len by omega)]
        by_cases h2 : vs.length ≤ s.cfg.cap - s.len
        · rw [if_pos h2]; congr 1; omega
        · rw [if_neg h2]; omega

/-- A list of appends does what `Appended` says. -/
theorem appendAll_appended (ys : List Byte) (s : State) : Appended ys s (appendAll ys s) :=
  ⟨appendAll_len ys s, appendAll_slot ys s, appendAll_ovfCnt ys s⟩

theorem appendAll_wf (ys : List Byte) (s : State) (h : Memory.wf s.buf = true) :
    Memory.wf (appendAll ys s).buf = true := by
  induction ys generalizing s with
  | nil => exact h
  | cons v vs ih => exact ih _ (append_wf v s h)

/-- Appends keep "exactly the slots below `len` are listed". -/
theorem appendAll_keys (ys : List Byte) (s : State) (h : s.buf.map Prod.fst = List.range s.len) :
    (appendAll ys s).buf.map Prod.fst = List.range (appendAll ys s).len := by
  induction ys generalizing s with
  | nil => exact h
  | cons v vs ih =>
    refine ih _ ?_
    rw [append_buf, append_len]
    split
    · rw [Memory.store_at_end _ _ _ (by rw [h]; simp), List.map_append, h, List.range_succ]; rfl
    · exact h

/-- The stored bytes after a list of appends: as many of them as fit, at the end. -/
theorem stored_appendAll (ys : List Byte) (s : State) :
    stored (appendAll ys s) = stored s ++ ys.take (s.cfg.cap - s.len) := by
  induction ys generalizing s with
  | nil => simp [appendAll]
  | cons v vs ih =>
    rw [appendAll, ih, append_cfg, append_len]
    by_cases h : s.len < s.cfg.cap
    · have hs : stored (append v s) = stored s ++ [v] := by
        simp only [stored, append_len, h, if_true, List.range_succ, List.filterMap_append]
        congr 1
        · refine List.filterMap_congr fun j hj => ?_
          rw [append_slot, if_neg (by rw [List.mem_range] at hj; omega)]
        · simp [append_slot, h]
      have he : s.cfg.cap - s.len = (s.cfg.cap - (s.len + 1)) + 1 := by omega
      rw [hs, if_pos h, he, List.take_succ_cons]; simp
    · have hs : stored (append v s) = stored s := by
        simp only [stored, append_len, h, if_false]
        refine List.filterMap_congr fun j hj => ?_
        rw [append_slot, if_neg (by simp [h])]
      have he : s.cfg.cap - s.len = 0 := by omega
      rw [hs, if_neg h, he]; simp

/-! ### The control step -/

/-- The control step leaves the buffer, the queue, the wire and the model's own fields alone. -/
theorem controlStep_keeps (b : Byte) (s : State) :
    HandlerKeeps s (controlStep b s) ∧ (controlStep b s).buf = s.buf ∧ (controlStep b s).len = s.len ∧
      (controlStep b s).ovfCnt = s.ovfCnt := by
  unfold controlStep; split <;> simp [HandlerKeeps]

/-- A control response does what `Responds` says. -/
theorem respond_responds (k : TriggerKind) (v : Byte) (s : State) : Responds k v s (notify k (tx v s)) := by
  exact ⟨by simp, fun h => by simp [h], fun w h => by simp [h]⟩

/-- The control step does what `ControlEffect` says. -/
theorem controlStep_effect (b : Byte) (s : State) : ControlEffect b s (controlStep b s) := by
  refine ⟨?_, ?_, ?_, ?_⟩
  · rintro rfl; exact respond_responds .clickOn 0x04#8 s
  · rintro rfl; exact respond_responds .clickOff 0x0A#8 s
  · rintro rfl; exact respond_responds .ack 0x10#8 s
  · rintro ⟨h1, h2, h3⟩
    simp [controlStep, triggerOf, h1, h2, h3, LinkKept]

/-- The handling of a byte answers a next state with the whole effect of `Handles`. -/
theorem handleByte_handles (b : Byte) (ys : List Byte) (s : State) :
    ∃ t, handleByte b ys s = .next t ∧ Handles b ys s t := by
  refine ⟨_, rfl, ?_, ?_, ?_⟩
  · obtain ⟨hl, hs, ho⟩ := appendAll_appended ys s
    obtain ⟨-, hb, hn, hc⟩ := controlStep_keeps b (appendAll ys s)
    refine ⟨by rw [leaveHandler_eq, hn, hl], fun j => ?_, by rw [leaveHandler_eq, hc, ho]⟩
    rw [leaveHandler_eq, hn, State.slot, hb]; exact hs j
  · obtain ⟨h1, h2, h3, h4⟩ := (appendAll_keeps ys s).2
    have h := controlStep_effect b (appendAll ys s)
    simpa only [ControlEffect, Responds, LinkKept, h1, h2, h3, h4, leaveHandler_eq] using h
  · obtain ⟨a1, a2, a3, a4, a5, a6, a7⟩ := (appendAll_keeps ys s).1
    obtain ⟨⟨c1, c2, c3, c4, c5, c6, c7⟩, -⟩ := controlStep_keeps b (appendAll ys s)
    exact ⟨c1.trans a1, c2.trans a2, c3.trans a3, c4.trans a4, c5.trans a5, c6.trans a6, c7.trans a7⟩

/-! ### The consumer's reads -/

/-- Where every slot below `len` holds a byte, reading all gives the stored bytes in order. -/
theorem readAll_ok {s : State} (h : ∀ j, j < s.len → (s.slot j).isSome = true) : readAll s = .ok (stored s) := by
  rw [readAll, readFrom_ok s.len 0 (by omega) (fun j _ hj => h j (by omega)), stored, List.range_eq_range']

/-- Where a slot below `len` holds no byte, reading all stops at the first such slot. -/
theorem readAll_error {s : State} {k : Nat} (hk : k < s.len) (h : ∀ j, j < k → (s.slot j).isSome = true)
    (hn : s.slot k = none) : readAll s = .error (.unreadableSlot k) := by
  have := readFrom_error s.len 0 k (by omega) hk (fun j _ hj => h j (by omega)) (by simpa using hn)
  simpa [readAll] using this

theorem readAll_of_inv {s : State} (h : BlockInv s) : readAll s = .ok (stored s) :=
  readAll_ok fun j hj => (slot_isSome_of_keys h.2.1 j).2 hj

/-- The number of stored bytes is `len` where every slot below it holds one. -/
theorem stored_length {s : State} (h : ∀ j, j < s.len → (s.slot j).isSome = true) : (stored s).length = s.len := by
  have key : ∀ n, n ≤ s.len → ((List.range n).filterMap s.slot).length = n := by
    intro n
    induction n with
    | zero => simp
    | succ n ih =>
      intro hn
      obtain ⟨v, hv⟩ := Option.isSome_iff_exists.1 (h n (by omega))
      simp [List.range_succ, hv, ih (by omega)]
  exact key s.len (le_refl _)

/-- If a `TAKE` answers a next state, its buffer is empty and the list read is recorded. -/
theorem take_cases {s t : State} (h : take s = .next t) :
    ∃ xs, readAll s = .ok xs ∧ t = { s with buf := [], len := 0, returned := s.returned ++ [.take xs] } := by
  unfold take at h
  split at h
  · rename_i xs hx; exact ⟨xs, hx, by simpa using h.symm⟩
  · simp at h

/-- If a `PEEK` answers a next state, only the list read is recorded. -/
theorem peek_cases {s t : State} (h : peek s = .next t) :
    ∃ xs, readAll s = .ok xs ∧ t = { s with returned := s.returned ++ [.peek xs] } := by
  unfold peek at h
  split at h
  · rename_i xs hx; exact ⟨xs, hx, by simpa using h.symm⟩
  · simp at h

theorem takenLists_append (xs ys : List Returned) : takenLists (xs ++ ys) = takenLists xs ++ takenLists ys := by
  induction xs with
  | nil => rfl
  | cons x rest ih => cases x <;> simp [takenLists, ih]

end Sys2Proof.Machine
end

