-- ==== Sys2Proof/Laws/PerInstr.lean ====
section
/-! SUPPORT. Laws about every instruction as syntax, one lemma for each constructor. -/

namespace Sys2Proof.Laws

/-- The class a row's mnemonic names is the class the sets of 30_encoding.md R72 give the row's byte. -/
def ClassAgrees.Statement (i : Instr) : Prop := Machine.classify (opcode i) = i.cls

theorem ClassAgrees.rx00CtrlLow : ClassAgrees.Statement .rx00CtrlLow := rfl
theorem ClassAgrees.rx01CtrlRange : ClassAgrees.Statement .rx01CtrlRange := rfl
theorem ClassAgrees.rx02CtrlRange : ClassAgrees.Statement .rx02CtrlRange := rfl
theorem ClassAgrees.rx03CtrlRange : ClassAgrees.Statement .rx03CtrlRange := rfl
theorem ClassAgrees.rx04CtrlRange : ClassAgrees.Statement .rx04CtrlRange := rfl
theorem ClassAgrees.rx05CtrlRange : ClassAgrees.Statement .rx05CtrlRange := rfl
theorem ClassAgrees.rx06CtrlRange : ClassAgrees.Statement .rx06CtrlRange := rfl
theorem ClassAgrees.rx07CtrlRange : ClassAgrees.Statement .rx07CtrlRange := rfl
theorem ClassAgrees.rx08Exc : ClassAgrees.Statement .rx08Exc := rfl
theorem ClassAgrees.rx09Exc : ClassAgrees.Statement .rx09Exc := rfl
theorem ClassAgrees.rx0ACtrlRange : ClassAgrees.Statement .rx0ACtrlRange := rfl
theorem ClassAgrees.rx0BCtrlRange : ClassAgrees.Statement .rx0BCtrlRange := rfl
theorem ClassAgrees.rx0CCtrlRange : ClassAgrees.Statement .rx0CCtrlRange := rfl
theorem ClassAgrees.rx0DExc : ClassAgrees.Statement .rx0DExc := rfl
theorem ClassAgrees.rx0ECtrlRange : ClassAgrees.Statement .rx0ECtrlRange := rfl
theorem ClassAgrees.rx0FCtrlRange : ClassAgrees.Statement .rx0FCtrlRange := rfl
theorem ClassAgrees.rx10CtrlRange : ClassAgrees.Statement .rx10CtrlRange := rfl
theorem ClassAgrees.rx11CtrlRange : ClassAgrees.Statement .rx11CtrlRange := rfl
theorem ClassAgrees.rx12CtrlRange : ClassAgrees.Statement .rx12CtrlRange := rfl
theorem ClassAgrees.rx13CtrlRange : ClassAgrees.Statement .rx13CtrlRange := rfl
theorem ClassAgrees.rx14CtrlRange : ClassAgrees.Statement .rx14CtrlRange := rfl
theorem ClassAgrees.rx15CtrlRange : ClassAgrees.Statement .rx15CtrlRange := rfl
theorem ClassAgrees.rx16CtrlRange : ClassAgrees.Statement .rx16CtrlRange := rfl
theorem ClassAgrees.rx17CtrlRange : ClassAgrees.Statement .rx17CtrlRange := rfl
theorem ClassAgrees.rx18CtrlRange : ClassAgrees.Statement .rx18CtrlRange := rfl
theorem ClassAgrees.rx19CtrlRange : ClassAgrees.Statement .rx19CtrlRange := rfl
theorem ClassAgrees.rx1ACtrlRange : ClassAgrees.Statement .rx1ACtrlRange := rfl
theorem ClassAgrees.rx1BExc : ClassAgrees.Statement .rx1BExc := rfl
theorem ClassAgrees.rx1CCtrlLow : ClassAgrees.Statement .rx1CCtrlLow := rfl
theorem ClassAgrees.rx1DCtrlLow : ClassAgrees.Statement .rx1DCtrlLow := rfl
theorem ClassAgrees.rx1ECtrlLow : ClassAgrees.Statement .rx1ECtrlLow := rfl
theorem ClassAgrees.rx1FCtrlLow : ClassAgrees.Statement .rx1FCtrlLow := rfl
theorem ClassAgrees.rx20Pass : ClassAgrees.Statement .rx20Pass := rfl
theorem ClassAgrees.rx21ShiftTab : ClassAgrees.Statement .rx21ShiftTab := rfl
theorem ClassAgrees.rx22ShiftTab : ClassAgrees.Statement .rx22ShiftTab := rfl
theorem ClassAgrees.rx23ShiftTab : ClassAgrees.Statement .rx23ShiftTab := rfl
theorem ClassAgrees.rx24ShiftTab : ClassAgrees.Statement .rx24ShiftTab := rfl
theorem ClassAgrees.rx25ShiftTab : ClassAgrees.Statement .rx25ShiftTab := rfl
theorem ClassAgrees.rx26ShiftTab : ClassAgrees.Statement .rx26ShiftTab := rfl
theorem ClassAgrees.rx27Pass : ClassAgrees.Statement .rx27Pass := rfl
theorem ClassAgrees.rx28ShiftTab : ClassAgrees.Statement .rx28ShiftTab := rfl
theorem ClassAgrees.rx29ShiftTab : ClassAgrees.Statement .rx29ShiftTab := rfl
theorem ClassAgrees.rx2AShiftTab : ClassAgrees.Statement .rx2AShiftTab := rfl
theorem ClassAgrees.rx2BShiftTab : ClassAgrees.Statement .rx2BShiftTab := rfl
theorem ClassAgrees.rx2CPass : ClassAgrees.Statement .rx2CPass := rfl
theorem ClassAgrees.rx2DPass : ClassAgrees.Statement .rx2DPass := rfl
theorem ClassAgrees.rx2EPass : ClassAgrees.Statement .rx2EPass := rfl
theorem ClassAgrees.rx2FPass : ClassAgrees.Statement .rx2FPass := rfl
theorem ClassAgrees.rx30Pass : ClassAgrees.Statement .rx30Pass := rfl
theorem ClassAgrees.rx31Pass : ClassAgrees.Statement .rx31Pass := rfl
theorem ClassAgrees.rx32Pass : ClassAgrees.Statement .rx32Pass := rfl
theorem ClassAgrees.rx33Pass : ClassAgrees.Statement .rx33Pass := rfl
theorem ClassAgrees.rx34Pass : ClassAgrees.Statement .rx34Pass := rfl
theorem ClassAgrees.rx35Pass : ClassAgrees.Statement .rx35Pass := rfl
theorem ClassAgrees.rx36Pass : ClassAgrees.Statement .rx36Pass := rfl
theorem ClassAgrees.rx37Pass : ClassAgrees.Statement .rx37Pass := rfl
theorem ClassAgrees.rx38Pass : ClassAgrees.Statement .rx38Pass := rfl
theorem ClassAgrees.rx39Pass : ClassAgrees.Statement .rx39Pass := rfl
theorem ClassAgrees.rx3AShiftTab : ClassAgrees.Statement .rx3AShiftTab := rfl
theorem ClassAgrees.rx3BPass : ClassAgrees.Statement .rx3BPass := rfl
theorem ClassAgrees.rx3CShiftTab : ClassAgrees.Statement .rx3CShiftTab := rfl
theorem ClassAgrees.rx3DPass : ClassAgrees.Statement .rx3DPass := rfl
theorem ClassAgrees.rx3EShiftTab : ClassAgrees.Statement .rx3EShiftTab := rfl
theorem ClassAgrees.rx3FShiftTab : ClassAgrees.Statement .rx3FShiftTab := rfl
theorem ClassAgrees.rx40ShiftTab : ClassAgrees.Statement .rx40ShiftTab := rfl
theorem ClassAgrees.rx41ShiftAlpha : ClassAgrees.Statement .rx41ShiftAlpha := rfl
theorem ClassAgrees.rx42ShiftAlpha : ClassAgrees.Statement .rx42ShiftAlpha := rfl
theorem ClassAgrees.rx43ShiftAlpha : ClassAgrees.Statement .rx43ShiftAlpha := rfl
theorem ClassAgrees.rx44ShiftAlpha : ClassAgrees.Statement .rx44ShiftAlpha := rfl
theorem ClassAgrees.rx45ShiftAlpha : ClassAgrees.Statement .rx45ShiftAlpha := rfl
theorem ClassAgrees.rx46ShiftAlpha : ClassAgrees.Statement .rx46ShiftAlpha := rfl
theorem ClassAgrees.rx47ShiftAlpha : ClassAgrees.Statement .rx47ShiftAlpha := rfl
theorem ClassAgrees.rx48ShiftAlpha : ClassAgrees.Statement .rx48ShiftAlpha := rfl
theorem ClassAgrees.rx49ShiftAlpha : ClassAgrees.Statement .rx49ShiftAlpha := rfl
theorem ClassAgrees.rx4AShiftAlpha : ClassAgrees.Statement .rx4AShiftAlpha := rfl
theorem ClassAgrees.rx4BShiftAlpha : ClassAgrees.Statement .rx4BShiftAlpha := rfl
theorem ClassAgrees.rx4CShiftAlpha : ClassAgrees.Statement .rx4CShiftAlpha := rfl
theorem ClassAgrees.rx4DShiftAlpha : ClassAgrees.Statement .rx4DShiftAlpha := rfl
theorem ClassAgrees.rx4EShiftAlpha : ClassAgrees.Statement .rx4EShiftAlpha := rfl
theorem ClassAgrees.rx4FShiftAlpha : ClassAgrees.Statement .rx4FShiftAlpha := rfl
theorem ClassAgrees.rx50ShiftAlpha : ClassAgrees.Statement .rx50ShiftAlpha := rfl
theorem ClassAgrees.rx51ShiftAlpha : ClassAgrees.Statement .rx51ShiftAlpha := rfl
theorem ClassAgrees.rx52ShiftAlpha : ClassAgrees.Statement .rx52ShiftAlpha := rfl
theorem ClassAgrees.rx53ShiftAlpha : ClassAgrees.Statement .rx53ShiftAlpha := rfl
theorem ClassAgrees.rx54ShiftAlpha : ClassAgrees.Statement .rx54ShiftAlpha := rfl
theorem ClassAgrees.rx55ShiftAlpha : ClassAgrees.Statement .rx55ShiftAlpha := rfl
theorem ClassAgrees.rx56ShiftAlpha : ClassAgrees.Statement .rx56ShiftAlpha := rfl
theorem ClassAgrees.rx57ShiftAlpha : ClassAgrees.Statement .rx57ShiftAlpha := rfl
theorem ClassAgrees.rx58ShiftAlpha : ClassAgrees.Statement .rx58ShiftAlpha := rfl
theorem ClassAgrees.rx59ShiftAlpha : ClassAgrees.Statement .rx59ShiftAlpha := rfl
theorem ClassAgrees.rx5AShiftAlpha : ClassAgrees.Statement .rx5AShiftAlpha := rfl
theorem ClassAgrees.rx5BPass : ClassAgrees.Statement .rx5BPass := rfl
theorem ClassAgrees.rx5CPass : ClassAgrees.Statement .rx5CPass := rfl
theorem ClassAgrees.rx5DPass : ClassAgrees.Statement .rx5DPass := rfl
theorem ClassAgrees.rx5EShiftTab : ClassAgrees.Statement .rx5EShiftTab := rfl
theorem ClassAgrees.rx5FShiftTab : ClassAgrees.Statement .rx5FShiftTab := rfl
theorem ClassAgrees.rx60Pass : ClassAgrees.Statement .rx60Pass := rfl
theorem ClassAgrees.rx61Pass : ClassAgrees.Statement .rx61Pass := rfl
theorem ClassAgrees.rx62Pass : ClassAgrees.Statement .rx62Pass := rfl
theorem ClassAgrees.rx63Pass : ClassAgrees.Statement .rx63Pass := rfl
theorem ClassAgrees.rx64Pass : ClassAgrees.Statement .rx64Pass := rfl
theorem ClassAgrees.rx65Pass : ClassAgrees.Statement .rx65Pass := rfl
theorem ClassAgrees.rx66Pass : ClassAgrees.Statement .rx66Pass := rfl
theorem ClassAgrees.rx67Pass : ClassAgrees.Statement .rx67Pass := rfl
theorem ClassAgrees.rx68Pass : ClassAgrees.Statement .rx68Pass := rfl
theorem ClassAgrees.rx69Pass : ClassAgrees.Statement .rx69Pass := rfl
theorem ClassAgrees.rx6APass : ClassAgrees.Statement .rx6APass := rfl
theorem ClassAgrees.rx6BPass : ClassAgrees.Statement .rx6BPass := rfl
theorem ClassAgrees.rx6CPass : ClassAgrees.Statement .rx6CPass := rfl
theorem ClassAgrees.rx6DPass : ClassAgrees.Statement .rx6DPass := rfl
theorem ClassAgrees.rx6EPass : ClassAgrees.Statement .rx6EPass := rfl
theorem ClassAgrees.rx6FPass : ClassAgrees.Statement .rx6FPass := rfl
theorem ClassAgrees.rx70Pass : ClassAgrees.Statement .rx70Pass := rfl
theorem ClassAgrees.rx71Pass : ClassAgrees.Statement .rx71Pass := rfl
theorem ClassAgrees.rx72Pass : ClassAgrees.Statement .rx72Pass := rfl
theorem ClassAgrees.rx73Pass : ClassAgrees.Statement .rx73Pass := rfl
theorem ClassAgrees.rx74Pass : ClassAgrees.Statement .rx74Pass := rfl
theorem ClassAgrees.rx75Pass : ClassAgrees.Statement .rx75Pass := rfl
theorem ClassAgrees.rx76Pass : ClassAgrees.Statement .rx76Pass := rfl
theorem ClassAgrees.rx77Pass : ClassAgrees.Statement .rx77Pass := rfl
theorem ClassAgrees.rx78Pass : ClassAgrees.Statement .rx78Pass := rfl
theorem ClassAgrees.rx79Pass : ClassAgrees.Statement .rx79Pass := rfl
theorem ClassAgrees.rx7APass : ClassAgrees.Statement .rx7APass := rfl
theorem ClassAgrees.rx7BShiftTab : ClassAgrees.Statement .rx7BShiftTab := rfl
theorem ClassAgrees.rx7CShiftTab : ClassAgrees.Statement .rx7CShiftTab := rfl
theorem ClassAgrees.rx7DShiftTab : ClassAgrees.Statement .rx7DShiftTab := rfl
theorem ClassAgrees.rx7EShiftTab : ClassAgrees.Statement .rx7EShiftTab := rfl
theorem ClassAgrees.rx7FPass : ClassAgrees.Statement .rx7FPass := rfl
theorem ClassAgrees.rx80Pass : ClassAgrees.Statement .rx80Pass := rfl
theorem ClassAgrees.rx81Pass : ClassAgrees.Statement .rx81Pass := rfl
theorem ClassAgrees.rx82Pass : ClassAgrees.Statement .rx82Pass := rfl
theorem ClassAgrees.rx83Pass : ClassAgrees.Statement .rx83Pass := rfl
theorem ClassAgrees.rx84Pass : ClassAgrees.Statement .rx84Pass := rfl
theorem ClassAgrees.rx85Pass : ClassAgrees.Statement .rx85Pass := rfl
theorem ClassAgrees.rx86Pass : ClassAgrees.Statement .rx86Pass := rfl
theorem ClassAgrees.rx87Pass : ClassAgrees.Statement .rx87Pass := rfl
theorem ClassAgrees.rx88Pass : ClassAgrees.Statement .rx88Pass := rfl
theorem ClassAgrees.rx89Pass : ClassAgrees.Statement .rx89Pass := rfl
theorem ClassAgrees.rx8APass : ClassAgrees.Statement .rx8APass := rfl
theorem ClassAgrees.rx8BPass : ClassAgrees.Statement .rx8BPass := rfl
theorem ClassAgrees.rx8CPass : ClassAgrees.Statement .rx8CPass := rfl
theorem ClassAgrees.rx8DPass : ClassAgrees.Statement .rx8DPass := rfl
theorem ClassAgrees.rx8EPass : ClassAgrees.Statement .rx8EPass := rfl
theorem ClassAgrees.rx8FPass : ClassAgrees.Statement .rx8FPass := rfl
theorem ClassAgrees.rx90Pass : ClassAgrees.Statement .rx90Pass := rfl
theorem ClassAgrees.rx91Pass : ClassAgrees.Statement .rx91Pass := rfl
theorem ClassAgrees.rx92Pass : ClassAgrees.Statement .rx92Pass := rfl
theorem ClassAgrees.rx93Pass : ClassAgrees.Statement .rx93Pass := rfl
theorem ClassAgrees.rx94Pass : ClassAgrees.Statement .rx94Pass := rfl
theorem ClassAgrees.rx95Pass : ClassAgrees.Statement .rx95Pass := rfl
theorem ClassAgrees.rx96Pass : ClassAgrees.Statement .rx96Pass := rfl
theorem ClassAgrees.rx97Pass : ClassAgrees.Statement .rx97Pass := rfl
theorem ClassAgrees.rx98Pass : ClassAgrees.Statement .rx98Pass := rfl
theorem ClassAgrees.rx99Pass : ClassAgrees.Statement .rx99Pass := rfl
theorem ClassAgrees.rx9APass : ClassAgrees.Statement .rx9APass := rfl
theorem ClassAgrees.rx9BPass : ClassAgrees.Statement .rx9BPass := rfl
theorem ClassAgrees.rx9CPass : ClassAgrees.Statement .rx9CPass := rfl
theorem ClassAgrees.rx9DPass : ClassAgrees.Statement .rx9DPass := rfl
theorem ClassAgrees.rx9EPass : ClassAgrees.Statement .rx9EPass := rfl
theorem ClassAgrees.rx9FPass : ClassAgrees.Statement .rx9FPass := rfl
theorem ClassAgrees.rxA0Pass : ClassAgrees.Statement .rxA0Pass := rfl
theorem ClassAgrees.rxA1Pass : ClassAgrees.Statement .rxA1Pass := rfl
theorem ClassAgrees.rxA2Pass : ClassAgrees.Statement .rxA2Pass := rfl
theorem ClassAgrees.rxA3Pass : ClassAgrees.Statement .rxA3Pass := rfl
theorem ClassAgrees.rxA4Pass : ClassAgrees.Statement .rxA4Pass := rfl
theorem ClassAgrees.rxA5Pass : ClassAgrees.Statement .rxA5Pass := rfl
theorem ClassAgrees.rxA6Pass : ClassAgrees.Statement .rxA6Pass := rfl
theorem ClassAgrees.rxA7Pass : ClassAgrees.Statement .rxA7Pass := rfl
theorem ClassAgrees.rxA8Pass : ClassAgrees.Statement .rxA8Pass := rfl
theorem ClassAgrees.rxA9Pass : ClassAgrees.Statement .rxA9Pass := rfl
theorem ClassAgrees.rxAAPass : ClassAgrees.Statement .rxAAPass := rfl
theorem ClassAgrees.rxABPass : ClassAgrees.Statement .rxABPass := rfl
theorem ClassAgrees.rxACPass : ClassAgrees.Statement .rxACPass := rfl
theorem ClassAgrees.rxADPass : ClassAgrees.Statement .rxADPass := rfl
theorem ClassAgrees.rxAEPass : ClassAgrees.Statement .rxAEPass := rfl
theorem ClassAgrees.rxAFPass : ClassAgrees.Statement .rxAFPass := rfl
theorem ClassAgrees.rxB0Pass : ClassAgrees.Statement .rxB0Pass := rfl
theorem ClassAgrees.rxB1Pass : ClassAgrees.Statement .rxB1Pass := rfl
theorem ClassAgrees.rxB2Pass : ClassAgrees.Statement .rxB2Pass := rfl
theorem ClassAgrees.rxB3Pass : ClassAgrees.Statement .rxB3Pass := rfl
theorem ClassAgrees.rxB4Pass : ClassAgrees.Statement .rxB4Pass := rfl
theorem ClassAgrees.rxB5Pass : ClassAgrees.Statement .rxB5Pass := rfl
theorem ClassAgrees.rxB6Pass : ClassAgrees.Statement .rxB6Pass := rfl
theorem ClassAgrees.rxB7Pass : ClassAgrees.Statement .rxB7Pass := rfl
theorem ClassAgrees.rxB8Pass : ClassAgrees.Statement .rxB8Pass := rfl
theorem ClassAgrees.rxB9Pass : ClassAgrees.Statement .rxB9Pass := rfl
theorem ClassAgrees.rxBAPass : ClassAgrees.Statement .rxBAPass := rfl
theorem ClassAgrees.rxBBPass : ClassAgrees.Statement .rxBBPass := rfl
theorem ClassAgrees.rxBCPass : ClassAgrees.Statement .rxBCPass := rfl
theorem ClassAgrees.rxBDPass : ClassAgrees.Statement .rxBDPass := rfl
theorem ClassAgrees.rxBEPass : ClassAgrees.Statement .rxBEPass := rfl
theorem ClassAgrees.rxBFPass : ClassAgrees.Statement .rxBFPass := rfl
theorem ClassAgrees.rxC0Pass : ClassAgrees.Statement .rxC0Pass := rfl
theorem ClassAgrees.rxC1Pass : ClassAgrees.Statement .rxC1Pass := rfl
theorem ClassAgrees.rxC2Pass : ClassAgrees.Statement .rxC2Pass := rfl
theorem ClassAgrees.rxC3Pass : ClassAgrees.Statement .rxC3Pass := rfl
theorem ClassAgrees.rxC4Pass : ClassAgrees.Statement .rxC4Pass := rfl
theorem ClassAgrees.rxC5Pass : ClassAgrees.Statement .rxC5Pass := rfl
theorem ClassAgrees.rxC6Pass : ClassAgrees.Statement .rxC6Pass := rfl
theorem ClassAgrees.rxC7Pass : ClassAgrees.Statement .rxC7Pass := rfl
theorem ClassAgrees.rxC8Pass : ClassAgrees.Statement .rxC8Pass := rfl
theorem ClassAgrees.rxC9Pass : ClassAgrees.Statement .rxC9Pass := rfl
theorem ClassAgrees.rxCAPass : ClassAgrees.Statement .rxCAPass := rfl
theorem ClassAgrees.rxCBPass : ClassAgrees.Statement .rxCBPass := rfl
theorem ClassAgrees.rxCCPass : ClassAgrees.Statement .rxCCPass := rfl
theorem ClassAgrees.rxCDPass : ClassAgrees.Statement .rxCDPass := rfl
theorem ClassAgrees.rxCEPass : ClassAgrees.Statement .rxCEPass := rfl
theorem ClassAgrees.rxCFPass : ClassAgrees.Statement .rxCFPass := rfl
theorem ClassAgrees.rxD0Pass : ClassAgrees.Statement .rxD0Pass := rfl
theorem ClassAgrees.rxD1Pass : ClassAgrees.Statement .rxD1Pass := rfl
theorem ClassAgrees.rxD2Pass : ClassAgrees.Statement .rxD2Pass := rfl
theorem ClassAgrees.rxD3Pass : ClassAgrees.Statement .rxD3Pass := rfl
theorem ClassAgrees.rxD4Pass : ClassAgrees.Statement .rxD4Pass := rfl
theorem ClassAgrees.rxD5Pass : ClassAgrees.Statement .rxD5Pass := rfl
theorem ClassAgrees.rxD6Pass : ClassAgrees.Statement .rxD6Pass := rfl
theorem ClassAgrees.rxD7Pass : ClassAgrees.Statement .rxD7Pass := rfl
theorem ClassAgrees.rxD8Pass : ClassAgrees.Statement .rxD8Pass := rfl
theorem ClassAgrees.rxD9Pass : ClassAgrees.Statement .rxD9Pass := rfl
theorem ClassAgrees.rxDAPass : ClassAgrees.Statement .rxDAPass := rfl
theorem ClassAgrees.rxDBPass : ClassAgrees.Statement .rxDBPass := rfl
theorem ClassAgrees.rxDCPass : ClassAgrees.Statement .rxDCPass := rfl
theorem ClassAgrees.rxDDPass : ClassAgrees.Statement .rxDDPass := rfl
theorem ClassAgrees.rxDEPass : ClassAgrees.Statement .rxDEPass := rfl
theorem ClassAgrees.rxDFPass : ClassAgrees.Statement .rxDFPass := rfl
theorem ClassAgrees.rxE0Pass : ClassAgrees.Statement .rxE0Pass := rfl
theorem ClassAgrees.rxE1Pass : ClassAgrees.Statement .rxE1Pass := rfl
theorem ClassAgrees.rxE2Pass : ClassAgrees.Statement .rxE2Pass := rfl
theorem ClassAgrees.rxE3Pass : ClassAgrees.Statement .rxE3Pass := rfl
theorem ClassAgrees.rxE4Pass : ClassAgrees.Statement .rxE4Pass := rfl
theorem ClassAgrees.rxE5Pass : ClassAgrees.Statement .rxE5Pass := rfl
theorem ClassAgrees.rxE6Pass : ClassAgrees.Statement .rxE6Pass := rfl
theorem ClassAgrees.rxE7Pass : ClassAgrees.Statement .rxE7Pass := rfl
theorem ClassAgrees.rxE8Pass : ClassAgrees.Statement .rxE8Pass := rfl
theorem ClassAgrees.rxE9Pass : ClassAgrees.Statement .rxE9Pass := rfl
theorem ClassAgrees.rxEAPass : ClassAgrees.Statement .rxEAPass := rfl
theorem ClassAgrees.rxEBPass : ClassAgrees.Statement .rxEBPass := rfl
theorem ClassAgrees.rxECPass : ClassAgrees.Statement .rxECPass := rfl
theorem ClassAgrees.rxEDPass : ClassAgrees.Statement .rxEDPass := rfl
theorem ClassAgrees.rxEEPass : ClassAgrees.Statement .rxEEPass := rfl
theorem ClassAgrees.rxEFPass : ClassAgrees.Statement .rxEFPass := rfl
theorem ClassAgrees.rxF0Pass : ClassAgrees.Statement .rxF0Pass := rfl
theorem ClassAgrees.rxF1Pass : ClassAgrees.Statement .rxF1Pass := rfl
theorem ClassAgrees.rxF2Pass : ClassAgrees.Statement .rxF2Pass := rfl
theorem ClassAgrees.rxF3Pass : ClassAgrees.Statement .rxF3Pass := rfl
theorem ClassAgrees.rxF4Pass : ClassAgrees.Statement .rxF4Pass := rfl
theorem ClassAgrees.rxF5Pass : ClassAgrees.Statement .rxF5Pass := rfl
theorem ClassAgrees.rxF6Pass : ClassAgrees.Statement .rxF6Pass := rfl
theorem ClassAgrees.rxF7Pass : ClassAgrees.Statement .rxF7Pass := rfl
theorem ClassAgrees.rxF8Pass : ClassAgrees.Statement .rxF8Pass := rfl
theorem ClassAgrees.rxF9Pass : ClassAgrees.Statement .rxF9Pass := rfl
theorem ClassAgrees.rxFAPass : ClassAgrees.Statement .rxFAPass := rfl
theorem ClassAgrees.rxFBPass : ClassAgrees.Statement .rxFBPass := rfl
theorem ClassAgrees.rxFCPass : ClassAgrees.Statement .rxFCPass := rfl
theorem ClassAgrees.rxFDPass : ClassAgrees.Statement .rxFDPass := rfl
theorem ClassAgrees.rxFEPass : ClassAgrees.Statement .rxFEPass := rfl
theorem ClassAgrees.rxFFPass : ClassAgrees.Statement .rxFFPass := rfl

end Sys2Proof.Laws
end

