-- ==== Sys2Proof/Laws/Perform.lean ====
section
/-! SUPPORT. What one operation, and so one step, can do, said once. -/

namespace Sys2Proof.Machine

/-- If an operation answers a next state, one of these cases holds: a byte delivered or discarded, a `TRANSLATE` with
nothing received, the row of the oldest byte run, a read of the consumer, the pending byte sent, or a reset. -/
theorem perform_cases {op : Op} {s t : State} (h : perform op s = .next t) :
    (∃ b, op = .rx b ∧ t = rx b s) ∨
    (op = .translate ∧ s.rxQ = [] ∧ t = s) ∨
    (∃ b q, op = .translate ∧ s.rxQ = b :: q ∧ exec (decodeByte b) { s with rxQ := q } = .next t) ∨
    (∃ xs, op = .take ∧ readAll s = .ok xs ∧ t = { s with buf := [], len := 0, returned := s.returned ++ [.take xs] }) ∨
    (∃ xs, op = .peek ∧ readAll s = .ok xs ∧ t = { s with returned := s.returned ++ [.peek xs] }) ∨
    (op = .txDone ∧ t = (txDone s).getD s) ∨
    (op = .reset ∧ t = resetBlock s) := by
  cases op with
  | rx b => exact .inl ⟨b, rfl, by simpa [perform] using h.symm⟩
  | translate =>
    simp only [perform, translateOldest, enterHandler] at h
    cases hq : s.rxQ with
    | nil => rw [hq] at h; exact .inr (.inl ⟨rfl, rfl, by simpa using h.symm⟩)
    | cons b q => rw [hq] at h; exact .inr (.inr (.inl ⟨b, q, rfl, rfl, h⟩))
  | take =>
    obtain ⟨xs, hx, ht⟩ := take_cases h
    exact .inr (.inr (.inr (.inl ⟨xs, rfl, hx, ht⟩)))
  | peek =>
    obtain ⟨xs, hx, ht⟩ := peek_cases h
    exact .inr (.inr (.inr (.inr (.inl ⟨xs, rfl, hx, ht⟩))))
  | txDone => exact .inr (.inr (.inr (.inr (.inr (.inl ⟨rfl, by simpa [perform] using h.symm⟩)))))
  | reset => exact .inr (.inr (.inr (.inr (.inr (.inr ⟨rfl, by simpa [perform] using h.symm⟩)))))

end Sys2Proof.Machine
end

