-- ==== Sys2Proof/Tests/Slice0.lean ====
section
/-! SUPPORT. Tests: the checks of WellFormed refuse, the decoder reads the words written out from the table, single steps give
what the vectors of 95_test_vectors.md say, and every statement's premises are met by a concrete state. -/

namespace Sys2Proof.Tests

open Sys2Proof.Machine

/-! ### WellFormed -/

/-- The parameters of a test block. -/
def par (cap depth w : Nat) : Params := { cap := cap, rxDepth := depth, ovfCntW := w, baud := 9600, consumerCarry := false }

theorem test_params_accepted : (par 1 1 32).wellFormed = true := by decide
theorem test_cap_zero_refused : (par 0 1 0).wellFormed = false := by decide
theorem test_depth_zero_refused : (par 1 0 0).wellFormed = false := by decide
theorem test_counter_width_33_refused : (par 1 1 33).wellFormed = false := by decide
/-- No instruction is ill formed (30_encoding.md R70, R74): there is no operand to be out of range. -/
theorem test_every_row_wellFormed : ∀ i : Instr, i.wellFormed = true := by intro i; cases i <;> rfl

/-! ### Decode: every row's word, from the encoding column of spec/opcode_table.json -/

set_option maxRecDepth 20000 in
theorem test_table_length : instrTable.length = 256 := by decide
theorem test_no_byte_refused : decode [] = .error .noByte := by decide
theorem test_rest_is_left : decode [0x41#8, 0x0D#8] = .ok (.rx41ShiftAlpha, [0x0D#8]) := by decide
theorem test_table_word : decodeTableWord 8 0xC3 = some .rxC3Pass := by decide
theorem test_decode_row_0 :
    [0b00000000#8, 0b00000001#8, 0b00000010#8, 0b00000011#8, 0b00000100#8, 0b00000101#8,
     0b00000110#8, 0b00000111#8, 0b00001000#8, 0b00001001#8, 0b00001010#8, 0b00001011#8,
     0b00001100#8, 0b00001101#8, 0b00001110#8, 0b00001111#8].map decodeByte =
    [.rx00CtrlLow, .rx01CtrlRange, .rx02CtrlRange, .rx03CtrlRange, .rx04CtrlRange, .rx05CtrlRange,
     .rx06CtrlRange, .rx07CtrlRange, .rx08Exc, .rx09Exc, .rx0ACtrlRange, .rx0BCtrlRange,
     .rx0CCtrlRange, .rx0DExc, .rx0ECtrlRange, .rx0FCtrlRange] := by decide
theorem test_decode_row_1 :
    [0b00010000#8, 0b00010001#8, 0b00010010#8, 0b00010011#8, 0b00010100#8, 0b00010101#8,
     0b00010110#8, 0b00010111#8, 0b00011000#8, 0b00011001#8, 0b00011010#8, 0b00011011#8,
     0b00011100#8, 0b00011101#8, 0b00011110#8, 0b00011111#8].map decodeByte =
    [.rx10CtrlRange, .rx11CtrlRange, .rx12CtrlRange, .rx13CtrlRange, .rx14CtrlRange, .rx15CtrlRange,
     .rx16CtrlRange, .rx17CtrlRange, .rx18CtrlRange, .rx19CtrlRange, .rx1ACtrlRange, .rx1BExc,
     .rx1CCtrlLow, .rx1DCtrlLow, .rx1ECtrlLow, .rx1FCtrlLow] := by decide
theorem test_decode_row_2 :
    [0b00100000#8, 0b00100001#8, 0b00100010#8, 0b00100011#8, 0b00100100#8, 0b00100101#8,
     0b00100110#8, 0b00100111#8, 0b00101000#8, 0b00101001#8, 0b00101010#8, 0b00101011#8,
     0b00101100#8, 0b00101101#8, 0b00101110#8, 0b00101111#8].map decodeByte =
    [.rx20Pass, .rx21ShiftTab, .rx22ShiftTab, .rx23ShiftTab, .rx24ShiftTab, .rx25ShiftTab,
     .rx26ShiftTab, .rx27Pass, .rx28ShiftTab, .rx29ShiftTab, .rx2AShiftTab, .rx2BShiftTab,
     .rx2CPass, .rx2DPass, .rx2EPass, .rx2FPass] := by decide
theorem test_decode_row_3 :
    [0b00110000#8, 0b00110001#8, 0b00110010#8, 0b00110011#8, 0b00110100#8, 0b00110101#8,
     0b00110110#8, 0b00110111#8, 0b00111000#8, 0b00111001#8, 0b00111010#8, 0b00111011#8,
     0b00111100#8, 0b00111101#8, 0b00111110#8, 0b00111111#8].map decodeByte =
    [.rx30Pass, .rx31Pass, .rx32Pass, .rx33Pass, .rx34Pass, .rx35Pass,
     .rx36Pass, .rx37Pass, .rx38Pass, .rx39Pass, .rx3AShiftTab, .rx3BPass,
     .rx3CShiftTab, .rx3DPass, .rx3EShiftTab, .rx3FShiftTab] := by decide
theorem test_decode_row_4 :
    [0b01000000#8, 0b01000001#8, 0b01000010#8, 0b01000011#8, 0b01000100#8, 0b01000101#8,
     0b01000110#8, 0b01000111#8, 0b01001000#8, 0b01001001#8, 0b01001010#8, 0b01001011#8,
     0b01001100#8, 0b01001101#8, 0b01001110#8, 0b01001111#8].map decodeByte =
    [.rx40ShiftTab, .rx41ShiftAlpha, .rx42ShiftAlpha, .rx43ShiftAlpha, .rx44ShiftAlpha, .rx45ShiftAlpha,
     .rx46ShiftAlpha, .rx47ShiftAlpha, .rx48ShiftAlpha, .rx49ShiftAlpha, .rx4AShiftAlpha, .rx4BShiftAlpha,
     .rx4CShiftAlpha, .rx4DShiftAlpha, .rx4EShiftAlpha, .rx4FShiftAlpha] := by decide
theorem test_decode_row_5 :
    [0b01010000#8, 0b01010001#8, 0b01010010#8, 0b01010011#8, 0b01010100#8, 0b01010101#8,
     0b01010110#8, 0b01010111#8, 0b01011000#8, 0b01011001#8, 0b01011010#8, 0b01011011#8,
     0b01011100#8, 0b01011101#8, 0b01011110#8, 0b01011111#8].map decodeByte =
    [.rx50ShiftAlpha, .rx51ShiftAlpha, .rx52ShiftAlpha, .rx53ShiftAlpha, .rx54ShiftAlpha, .rx55ShiftAlpha,
     .rx56ShiftAlpha, .rx57ShiftAlpha, .rx58ShiftAlpha, .rx59ShiftAlpha, .rx5AShiftAlpha, .rx5BPass,
     .rx5CPass, .rx5DPass, .rx5EShiftTab, .rx5FShiftTab] := by decide
theorem test_decode_row_6 :
    [0b01100000#8, 0b01100001#8, 0b01100010#8, 0b01100011#8, 0b01100100#8, 0b01100101#8,
     0b01100110#8, 0b01100111#8, 0b01101000#8, 0b01101001#8, 0b01101010#8, 0b01101011#8,
     0b01101100#8, 0b01101101#8, 0b01101110#8, 0b01101111#8].map decodeByte =
    [.rx60Pass, .rx61Pass, .rx62Pass, .rx63Pass, .rx64Pass, .rx65Pass,
     .rx66Pass, .rx67Pass, .rx68Pass, .rx69Pass, .rx6APass, .rx6BPass,
     .rx6CPass, .rx6DPass, .rx6EPass, .rx6FPass] := by decide
theorem test_decode_row_7 :
    [0b01110000#8, 0b01110001#8, 0b01110010#8, 0b01110011#8, 0b01110100#8, 0b01110101#8,
     0b01110110#8, 0b01110111#8, 0b01111000#8, 0b01111001#8, 0b01111010#8, 0b01111011#8,
     0b01111100#8, 0b01111101#8, 0b01111110#8, 0b01111111#8].map decodeByte =
    [.rx70Pass, .rx71Pass, .rx72Pass, .rx73Pass, .rx74Pass, .rx75Pass,
     .rx76Pass, .rx77Pass, .rx78Pass, .rx79Pass, .rx7APass, .rx7BShiftTab,
     .rx7CShiftTab, .rx7DShiftTab, .rx7EShiftTab, .rx7FPass] := by decide
theorem test_decode_row_8 :
    [0b10000000#8, 0b10000001#8, 0b10000010#8, 0b10000011#8, 0b10000100#8, 0b10000101#8,
     0b10000110#8, 0b10000111#8, 0b10001000#8, 0b10001001#8, 0b10001010#8, 0b10001011#8,
     0b10001100#8, 0b10001101#8, 0b10001110#8, 0b10001111#8].map decodeByte =
    [.rx80Pass, .rx81Pass, .rx82Pass, .rx83Pass, .rx84Pass, .rx85Pass,
     .rx86Pass, .rx87Pass, .rx88Pass, .rx89Pass, .rx8APass, .rx8BPass,
     .rx8CPass, .rx8DPass, .rx8EPass, .rx8FPass] := by decide
theorem test_decode_row_9 :
    [0b10010000#8, 0b10010001#8, 0b10010010#8, 0b10010011#8, 0b10010100#8, 0b10010101#8,
     0b10010110#8, 0b10010111#8, 0b10011000#8, 0b10011001#8, 0b10011010#8, 0b10011011#8,
     0b10011100#8, 0b10011101#8, 0b10011110#8, 0b10011111#8].map decodeByte =
    [.rx90Pass, .rx91Pass, .rx92Pass, .rx93Pass, .rx94Pass, .rx95Pass,
     .rx96Pass, .rx97Pass, .rx98Pass, .rx99Pass, .rx9APass, .rx9BPass,
     .rx9CPass, .rx9DPass, .rx9EPass, .rx9FPass] := by decide
theorem test_decode_row_A :
    [0b10100000#8, 0b10100001#8, 0b10100010#8, 0b10100011#8, 0b10100100#8, 0b10100101#8,
     0b10100110#8, 0b10100111#8, 0b10101000#8, 0b10101001#8, 0b10101010#8, 0b10101011#8,
     0b10101100#8, 0b10101101#8, 0b10101110#8, 0b10101111#8].map decodeByte =
    [.rxA0Pass, .rxA1Pass, .rxA2Pass, .rxA3Pass, .rxA4Pass, .rxA5Pass,
     .rxA6Pass, .rxA7Pass, .rxA8Pass, .rxA9Pass, .rxAAPass, .rxABPass,
     .rxACPass, .rxADPass, .rxAEPass, .rxAFPass] := by decide
theorem test_decode_row_B :
    [0b10110000#8, 0b10110001#8, 0b10110010#8, 0b10110011#8, 0b10110100#8, 0b10110101#8,
     0b10110110#8, 0b10110111#8, 0b10111000#8, 0b10111001#8, 0b10111010#8, 0b10111011#8,
     0b10111100#8, 0b10111101#8, 0b10111110#8, 0b10111111#8].map decodeByte =
    [.rxB0Pass, .rxB1Pass, .rxB2Pass, .rxB3Pass, .rxB4Pass, .rxB5Pass,
     .rxB6Pass, .rxB7Pass, .rxB8Pass, .rxB9Pass, .rxBAPass, .rxBBPass,
     .rxBCPass, .rxBDPass, .rxBEPass, .rxBFPass] := by decide
theorem test_decode_row_C :
    [0b11000000#8, 0b11000001#8, 0b11000010#8, 0b11000011#8, 0b11000100#8, 0b11000101#8,
     0b11000110#8, 0b11000111#8, 0b11001000#8, 0b11001001#8, 0b11001010#8, 0b11001011#8,
     0b11001100#8, 0b11001101#8, 0b11001110#8, 0b11001111#8].map decodeByte =
    [.rxC0Pass, .rxC1Pass, .rxC2Pass, .rxC3Pass, .rxC4Pass, .rxC5Pass,
     .rxC6Pass, .rxC7Pass, .rxC8Pass, .rxC9Pass, .rxCAPass, .rxCBPass,
     .rxCCPass, .rxCDPass, .rxCEPass, .rxCFPass] := by decide
theorem test_decode_row_D :
    [0b11010000#8, 0b11010001#8, 0b11010010#8, 0b11010011#8, 0b11010100#8, 0b11010101#8,
     0b11010110#8, 0b11010111#8, 0b11011000#8, 0b11011001#8, 0b11011010#8, 0b11011011#8,
     0b11011100#8, 0b11011101#8, 0b11011110#8, 0b11011111#8].map decodeByte =
    [.rxD0Pass, .rxD1Pass, .rxD2Pass, .rxD3Pass, .rxD4Pass, .rxD5Pass,
     .rxD6Pass, .rxD7Pass, .rxD8Pass, .rxD9Pass, .rxDAPass, .rxDBPass,
     .rxDCPass, .rxDDPass, .rxDEPass, .rxDFPass] := by decide
theorem test_decode_row_E :
    [0b11100000#8, 0b11100001#8, 0b11100010#8, 0b11100011#8, 0b11100100#8, 0b11100101#8,
     0b11100110#8, 0b11100111#8, 0b11101000#8, 0b11101001#8, 0b11101010#8, 0b11101011#8,
     0b11101100#8, 0b11101101#8, 0b11101110#8, 0b11101111#8].map decodeByte =
    [.rxE0Pass, .rxE1Pass, .rxE2Pass, .rxE3Pass, .rxE4Pass, .rxE5Pass,
     .rxE6Pass, .rxE7Pass, .rxE8Pass, .rxE9Pass, .rxEAPass, .rxEBPass,
     .rxECPass, .rxEDPass, .rxEEPass, .rxEFPass] := by decide
theorem test_decode_row_F :
    [0b11110000#8, 0b11110001#8, 0b11110010#8, 0b11110011#8, 0b11110100#8, 0b11110101#8,
     0b11110110#8, 0b11110111#8, 0b11111000#8, 0b11111001#8, 0b11111010#8, 0b11111011#8,
     0b11111100#8, 0b11111101#8, 0b11111110#8, 0b11111111#8].map decodeByte =
    [.rxF0Pass, .rxF1Pass, .rxF2Pass, .rxF3Pass, .rxF4Pass, .rxF5Pass,
     .rxF6Pass, .rxF7Pass, .rxF8Pass, .rxF9Pass, .rxFAPass, .rxFBPass,
     .rxFCPass, .rxFDPass, .rxFEPass, .rxFFPass] := by decide

/-! ### Single steps -/

/-- A small block right after reset, with parameters of its own. -/
def lab (cap depth w : Nat) : State := { State.reset with cfg := par cap depth w }

/-- What a field holds after a step, if there is a next state. -/
def after {α : Type} (o : Host.Outcome State Fault Refusal) (f : State → α) : Option α :=
  match o with
  | .next t => some (f t)
  | _ => none

/-- 95_test_vectors.md E1. -/
theorem test_exception_bytes :
    ([.rx08Exc, .rx09Exc, .rx0DExc, .rx1BExc] : List Instr).map
      (fun i => after (exec i (lab 8 1 0)) (·.buf)) =
    ([[(0, 0x08#8)], [(0, 0x09#8)], [(0, 0x0D#8)], [(0, 0x1B#8)]] : List (List Host.Cell)).map some := by decide

/-- 95_test_vectors.md E2. -/
theorem test_low_control_bytes :
    ([.rx00CtrlLow, .rx1CCtrlLow, .rx1DCtrlLow, .rx1ECtrlLow, .rx1FCtrlLow] : List Instr).map
      (fun i => after (exec i (lab 8 1 0)) (·.buf)) =
    ([[(0, 0xF6#8), (1, 0x40#8)], [(0, 0xF6#8), (1, 0x5C#8)], [(0, 0xF6#8), (1, 0x5D#8)], [(0, 0xF6#8), (1, 0x5E#8)],
     [(0, 0xF6#8), (1, 0x5F#8)]] : List (List Host.Cell)).map some := by decide

/-- 95_test_vectors.md section 2.2, T01 to T21. -/
theorem test_shift_table :
    ([.rx21ShiftTab, .rx22ShiftTab, .rx23ShiftTab, .rx24ShiftTab, .rx25ShiftTab, .rx26ShiftTab,
     .rx28ShiftTab, .rx29ShiftTab, .rx2AShiftTab, .rx2BShiftTab, .rx3AShiftTab, .rx3CShiftTab,
     .rx3EShiftTab, .rx3FShiftTab, .rx40ShiftTab, .rx5EShiftTab, .rx5FShiftTab, .rx7BShiftTab,
     .rx7CShiftTab, .rx7DShiftTab, .rx7EShiftTab] : List Instr).map
      (fun i => after (exec i (lab 8 1 0)) (·.buf)) =
    ([[(0, 0xF5#8), (1, 0x31#8)], [(0, 0xF5#8), (1, 0x27#8)], [(0, 0xF5#8), (1, 0x33#8)], [(0, 0xF5#8), (1, 0x34#8)],
     [(0, 0xF5#8), (1, 0x35#8)], [(0, 0xF5#8), (1, 0x37#8)], [(0, 0xF5#8), (1, 0x39#8)], [(0, 0xF5#8), (1, 0x30#8)],
     [(0, 0xF5#8), (1, 0x38#8)], [(0, 0xF5#8), (1, 0x3D#8)], [(0, 0xF5#8), (1, 0x3B#8)], [(0, 0xF5#8), (1, 0x2C#8)],
     [(0, 0xF5#8), (1, 0x2E#8)], [(0, 0xF5#8), (1, 0x2F#8)], [(0, 0xF5#8), (1, 0x32#8)], [(0, 0xF5#8), (1, 0x36#8)],
     [(0, 0xF5#8), (1, 0x2D#8)], [(0, 0xF5#8), (1, 0x5B#8)], [(0, 0xF5#8), (1, 0x5C#8)], [(0, 0xF5#8), (1, 0x5D#8)],
     [(0, 0xF5#8), (1, 0x60#8)]] : List (List Host.Cell)).map some := by decide

/-- 95_test_vectors.md E4. -/
theorem test_control_range :
    ([.rx01CtrlRange, .rx02CtrlRange, .rx03CtrlRange, .rx04CtrlRange, .rx05CtrlRange, .rx06CtrlRange,
     .rx07CtrlRange, .rx0ACtrlRange, .rx0BCtrlRange, .rx0CCtrlRange, .rx0ECtrlRange, .rx0FCtrlRange,
     .rx10CtrlRange, .rx11CtrlRange, .rx12CtrlRange, .rx13CtrlRange, .rx14CtrlRange, .rx15CtrlRange,
     .rx16CtrlRange, .rx17CtrlRange, .rx18CtrlRange, .rx19CtrlRange, .rx1ACtrlRange] : List Instr).map
      (fun i => after (exec i (lab 8 1 0)) (·.buf)) =
    ([[(0, 0xF6#8), (1, 0x61#8)], [(0, 0xF6#8), (1, 0x62#8)], [(0, 0xF6#8), (1, 0x63#8)], [(0, 0xF6#8), (1, 0x64#8)],
     [(0, 0xF6#8), (1, 0x65#8)], [(0, 0xF6#8), (1, 0x66#8)], [(0, 0xF6#8), (1, 0x67#8)], [(0, 0xF6#8), (1, 0x6A#8)],
     [(0, 0xF6#8), (1, 0x6B#8)], [(0, 0xF6#8), (1, 0x6C#8)], [(0, 0xF6#8), (1, 0x6E#8)], [(0, 0xF6#8), (1, 0x6F#8)],
     [(0, 0xF6#8), (1, 0x70#8)], [(0, 0xF6#8), (1, 0x71#8)], [(0, 0xF6#8), (1, 0x72#8)], [(0, 0xF6#8), (1, 0x73#8)],
     [(0, 0xF6#8), (1, 0x74#8)], [(0, 0xF6#8), (1, 0x75#8)], [(0, 0xF6#8), (1, 0x76#8)], [(0, 0xF6#8), (1, 0x77#8)],
     [(0, 0xF6#8), (1, 0x78#8)], [(0, 0xF6#8), (1, 0x79#8)], [(0, 0xF6#8), (1, 0x7A#8)]] : List (List Host.Cell)).map some := by decide

/-- 95_test_vectors.md E5. -/
theorem test_shifted_letters :
    ([.rx41ShiftAlpha, .rx42ShiftAlpha, .rx43ShiftAlpha, .rx44ShiftAlpha, .rx45ShiftAlpha, .rx46ShiftAlpha,
     .rx47ShiftAlpha, .rx48ShiftAlpha, .rx49ShiftAlpha, .rx4AShiftAlpha, .rx4BShiftAlpha, .rx4CShiftAlpha,
     .rx4DShiftAlpha, .rx4EShiftAlpha, .rx4FShiftAlpha, .rx50ShiftAlpha, .rx51ShiftAlpha, .rx52ShiftAlpha,
     .rx53ShiftAlpha, .rx54ShiftAlpha, .rx55ShiftAlpha, .rx56ShiftAlpha, .rx57ShiftAlpha, .rx58ShiftAlpha,
     .rx59ShiftAlpha, .rx5AShiftAlpha] : List Instr).map
      (fun i => after (exec i (lab 8 1 0)) (·.buf)) =
    ([[(0, 0xF5#8), (1, 0x61#8)], [(0, 0xF5#8), (1, 0x62#8)], [(0, 0xF5#8), (1, 0x63#8)], [(0, 0xF5#8), (1, 0x64#8)],
     [(0, 0xF5#8), (1, 0x65#8)], [(0, 0xF5#8), (1, 0x66#8)], [(0, 0xF5#8), (1, 0x67#8)], [(0, 0xF5#8), (1, 0x68#8)],
     [(0, 0xF5#8), (1, 0x69#8)], [(0, 0xF5#8), (1, 0x6A#8)], [(0, 0xF5#8), (1, 0x6B#8)], [(0, 0xF5#8), (1, 0x6C#8)],
     [(0, 0xF5#8), (1, 0x6D#8)], [(0, 0xF5#8), (1, 0x6E#8)], [(0, 0xF5#8), (1, 0x6F#8)], [(0, 0xF5#8), (1, 0x70#8)],
     [(0, 0xF5#8), (1, 0x71#8)], [(0, 0xF5#8), (1, 0x72#8)], [(0, 0xF5#8), (1, 0x73#8)], [(0, 0xF5#8), (1, 0x74#8)],
     [(0, 0xF5#8), (1, 0x75#8)], [(0, 0xF5#8), (1, 0x76#8)], [(0, 0xF5#8), (1, 0x77#8)], [(0, 0xF5#8), (1, 0x78#8)],
     [(0, 0xF5#8), (1, 0x79#8)], [(0, 0xF5#8), (1, 0x7A#8)]] : List (List Host.Cell)).map some := by decide

/-- 95_test_vectors.md V15, V18, V33, V42, V47, V50. -/
theorem test_default_bytes :
    ([.rx20Pass, .rx27Pass, .rx5BPass, .rx7FPass, .rxF5Pass, .rxFFPass] : List Instr).map
      (fun i => after (exec i (lab 8 1 0)) (·.buf)) =
    ([[(0, 0x20#8)], [(0, 0x27#8)], [(0, 0x5B#8)], [(0, 0x7F#8)], [(0, 0xF5#8)], [(0, 0xFF#8)]] :
      List (List Host.Cell)).map some := by decide

/-- 95_test_vectors.md A1: one free slot, two bytes. -/
theorem test_A1_marker_stored_byte_dropped :
    after (exec .rx41ShiftAlpha (lab 1 1 8)) (fun t => (t.buf, t.len, t.ovfCnt)) =
      some ([(0, 0xF5#8)], 1, 1) := by decide

/-- 95_test_vectors.md A5, last line: no free slot, two bytes. -/
theorem test_A5_both_bytes_dropped :
    after (exec .rx41ShiftAlpha { lab 3 1 8 with buf := [(0, 0x0D#8), (1, 0x20#8), (2, 0x20#8)], len := 3 })
      (fun t => (t.buf, t.len, t.ovfCnt)) = some ([(0, 0x0D#8), (1, 0x20#8), (2, 0x20#8)], 3, 2) := by decide

/-- 95_test_vectors.md A7, last line: the counter saturates. -/
theorem test_A7_counter_saturates :
    after (exec .rx20Pass { lab 1 1 1 with buf := [(0, 0x20#8)], len := 1, ovfCnt := 1 })
      (fun t => (t.buf, t.ovfCnt)) = some ([(0, 0x20#8)], 1) := by decide

/-- 95_test_vectors.md V06, X3: class 4 and the acknowledgment. -/
theorem test_V06_acknowledge :
    after (exec .rx0ACtrlRange (lab 2 1 0)) (fun t => (t.buf, t.txHold, t.notifyLog)) =
      some ([(0, 0xF6#8), (1, 0x6A#8)], some 0x10#8, [.ack]) := by decide

/-- 95_test_vectors.md V44. -/
theorem test_V44_click_off :
    after (exec .rxB2Pass (lab 2 1 0)) (fun t => (t.buf, t.txHold, t.notifyLog)) =
      some ([(0, 0xB2#8)], some 0x0A#8, [.clickOff]) := by decide

/-- 95_test_vectors.md X5: a trigger byte dropped by a full buffer still transmits. -/
theorem test_X5_dropped_trigger_transmits :
    after (exec .rxC3Pass { lab 1 1 0 with buf := [(0, 0x20#8)], len := 1 })
      (fun t => (t.buf, t.txHold, t.notifyLog)) = some ([(0, 0x20#8)], some 0x04#8, [.clickOn]) := by decide

/-- 95_test_vectors.md P4, second line: the second response is discarded, the notification is not. -/
theorem test_P4_tx_overrun :
    after (exec .rxC3Pass { lab 4 1 0 with txHold := some 0x0A#8, notifyLog := [.clickOff] })
      (fun t => (t.txHold, t.txOverrun, t.notifyLog)) = some (some 0x0A#8, true, [.clickOff, .clickOn]) := by decide

/-- 95_test_vectors.md X6: the response byte values received as input trigger nothing. -/
theorem test_X6_no_trigger :
    after (exec .rx10CtrlRange (lab 4 1 0)) (fun t => (t.buf, t.txHold, t.notifyLog)) =
      some ([(0, 0xF6#8), (1, 0x70#8)], none, []) := by decide

/-- 95_test_vectors.md L1, second line. -/
theorem test_L1_rx_overrun :
    after (step { lab 2 1 0 with rxQ := [0x41#8], agenda := [.rx 0x42#8] })
      (fun t => (t.rxQ, t.rxOverrun, t.faultLog)) = some ([0x41#8], true, [⟨.rxOverrun, 0x42#8⟩]) := by decide

/-- 95_test_vectors.md L2, third line: the oldest byte is translated. -/
theorem test_L2_oldest_first :
    after (step { lab 4 2 0 with rxQ := [0x41#8, 0x42#8], agenda := [.translate] })
      (fun t => (t.rxQ, t.buf)) = some ([0x42#8], [(0, 0xF5#8), (1, 0x61#8)]) := by decide

/-- 95_test_vectors.md K7, last line. -/
theorem test_K7_take :
    after (step { lab 4 1 0 with
        buf := [(0, 0xF5#8), (1, 0x61#8), (2, 0xF6#8), (3, 0x6A#8)], len := 4, agenda := [.take] })
      (fun t => (t.buf, t.len, t.returned)) =
      some ([], 0, [.take [0xF5#8, 0x61#8, 0xF6#8, 0x6A#8]]) := by decide

/-- 95_test_vectors.md K3, second line. -/
theorem test_K3_peek :
    after (step { lab 1 1 0 with buf := [(0, 0x0D#8)], len := 1, agenda := [.peek] })
      (fun t => (t.buf, t.len, t.returned)) = some ([(0, 0x0D#8)], 1, [.peek [0x0D#8]]) := by decide

/-- 95_test_vectors.md X1, last line. -/
theorem test_X1_txdone :
    after (step { lab 1 1 0 with txHold := some 0x04#8, agenda := [.txDone] }) (fun t => (t.txHold, t.txWire)) =
      some (none, [0x04#8]) := by decide

/-- 95_test_vectors.md Z2, first line of its script. -/
theorem test_Z2_reset :
    after (step { lab 1 1 8 with
        buf := [(0, 0xF5#8)], len := 1, rxQ := [0x0A#8], rxOverrun := true, ovfCnt := 1, agenda := [.reset] })
      (fun t => (t.rxQ, t.rxOverrun, t.ovfCnt, t.len)) = some ([], false, 0, 0) := by decide

/-- The first step after reset on a fetched word runs that word's row (assumption 9). -/
theorem test_fetched_word_runs :
    step (State.reset.withFetchWord 8 0x0D) = exec .rx0DExc State.reset := by rfl

/-- 95_test_vectors.md M7 to M10. -/
theorem test_marker_streams :
    decodeStream [0xF5#8, 0xF6#8] = ([.shifted 0xF6#8], .idle) ∧
    decodeStream [0xF6#8, 0xF5#8, 0x61#8] = ([.ctrl 0xF5#8, .plain 0x61#8], .idle) ∧
    decodeStream [0xF5#8, 0xF5#8, 0xF5#8] = ([.shifted 0xF5#8], .shiftPend) ∧
    decodeStream [0xF5#8, 0x61#8, 0xF6#8, 0x6A#8, 0xC3#8] =
      ([.shifted 0x61#8, .ctrl 0x6A#8, .plain 0xC3#8], .idle) := by decide

/-- 95_test_vectors.md P2: what a consumer reads with and without the carry. -/
theorem test_P2_carry :
    readLists false .idle [[0xF5#8, 0x61#8, 0xF5#8], [0x61#8]] = ([.shifted 0x61#8, .plain 0x61#8], .idle) ∧
    readLists true .idle [[0xF5#8, 0x61#8, 0xF5#8], [0x61#8]] = ([.shifted 0x61#8, .shifted 0x61#8], .idle) := by
  decide

/-! ### Witnesses: states and operands that meet the premises of the statements -/

/-- A block that holds two bytes, with a byte waiting, a byte pending and one notification. -/
def busy : State :=
  { lab 4 2 8 with
    buf := [(0, 0xF5#8), (1, 0x61#8)], len := 2, rxQ := [0x42#8], txHold := some 0x10#8, notifyLog := [.ack],
    agenda := [.translate] }

theorem witness_DecodeOfEncodeIsTheInstruction : Instr.rxC3Pass.wellFormed = true := by decide
theorem witness_EmissionTellsTheByte : emission 0x41#8 = emission 0x41#8 := by decide
theorem witness_ClassesHaveTheListedBytes :
    classify 0x08#8 = .exc ∧ classify 0x1F#8 = .ctrlLow ∧ classify 0x1A#8 = .ctrlRange ∧ classify 0x5A#8 = .shiftAlpha ∧
    classify 0xFF#8 = .pass ∧ classify 0x7E#8 = .shiftTab := by decide
theorem witness_EmissionShapeAndSecondBytes :
    classify 0x1B#8 ∈ [ScanClass.exc, .pass] ∧
    classify 0x7E#8 ∈ [ScanClass.ctrlLow, .shiftTab, .ctrlRange, .shiftAlpha] ∧ classify 0x00#8 = .ctrlLow ∧
    classify 0x01#8 = .ctrlRange ∧ classify 0x41#8 = .shiftAlpha ∧ (0x21#8, (0x10 : Int)) ∈ shiftTab ∧
    (0x5B#8 ≤ 0x7A#8 ∧ 0x7A#8 ≤ 0x7A#8) := by decide
theorem witness_InFromReset : (par 2 1 0).wellFormed = true ∧ [0xF5#8, 0x61#8].length ≤ (par 2 1 0).cap := by decide
theorem witness_ExceptionBytesAreStoredAsTheyAre :
    (Instr.rx08Exc, 0x08#8) ∈ ([(.rx08Exc, 0x08#8), (.rx1BExc, 0x1B#8)] : List (Instr × Byte)) := by decide
theorem witness_LowControlBytesShiftByForty :
    (Instr.rx1FCtrlLow, 0x1F#8, 0x5F#8) ∈ ([(.rx1FCtrlLow, 0x1F#8, 0x5F#8)] : List (Instr × Byte × Byte)) := by decide
theorem witness_ShiftTableBytesShiftByTheirEntryFirstHalf :
    (Instr.rx40ShiftTab, 0x40#8, (-0x0E : Int), 0x32#8) ∈
      ([(.rx40ShiftTab, 0x40#8, -0x0E, 0x32#8)] : List (Instr × Byte × Int × Byte)) := by decide
theorem witness_ShiftTableBytesShiftByTheirEntrySecondHalf :
    (Instr.rx7EShiftTab, 0x7E#8, (-0x1E : Int), 0x60#8) ∈
      ([(.rx7EShiftTab, 0x7E#8, -0x1E, 0x60#8)] : List (Instr × Byte × Int × Byte)) := by decide
theorem witness_ControlRangeBytesShiftBySixty :
    (Instr.rx1ACtrlRange, 0x1A#8, 0x7A#8) ∈ ([(.rx1ACtrlRange, 0x1A#8, 0x7A#8)] : List (Instr × Byte × Byte)) := by
  decide
theorem witness_ShiftedLettersShiftByTwenty :
    (Instr.rx5AShiftAlpha, 0x5A#8, 0x7A#8) ∈ ([(.rx5AShiftAlpha, 0x5A#8, 0x7A#8)] : List (Instr × Byte × Byte)) := by
  decide
theorem witness_DefaultBytesAreStoredAsTheyAre :
    (0x2C#8 ≤ 0x39#8 ∧ 0x39#8 ≤ 0x39#8) ∧ (0x5B#8 ≤ 0x5D#8 ∧ 0x5D#8 ≤ 0x5D#8) ∧ (0x60#8 ≤ 0x7A#8 ∧ 0x7A#8 ≤ 0x7A#8) ∧
    0x7F#8 ≤ 0x7F#8 ∧ 0x7F#8 ≤ 0xFF#8 := by decide
theorem witness_RemapRulesFollowTheClasses :
    classify 0x41#8 = .shiftAlpha ∧ classify 0x40#8 = .shiftTab ∧ remapRule 0x40#8 = .shiftOffset (-0x0E) ∧
    remapRule 0x1B#8 = .exceptionPassThrough ∧ remapRule 0x1F#8 = .ctrlOffsetLow ∧
    remapRule 0x1A#8 = .ctrlOffsetHigh ∧ remapRule 0x7F#8 = .passThrough := by decide
theorem witness_triggers : (lab 4 1 0).txHold = none ∧ busy.txHold = some 0x10#8 := by decide
theorem witness_OnlyTheThreeTriggersRespond :
    opcode .rx04CtrlRange ≠ 0xC3#8 ∧ opcode .rx04CtrlRange ≠ 0xB2#8 ∧ opcode .rx04CtrlRange ≠ 0x0A#8 := by decide
theorem witness_ResponseIgnoresTheBuffer :
    busy.txHold = { busy with cfg := par 2 2 0 }.txHold ∧ busy.cfg ≠ { busy with cfg := par 2 2 0 }.cfg := by decide
theorem witness_AppendsIgnoreTheLink :
    busy.buf = { busy with txHold := none }.buf ∧ busy.txHold ≠ { busy with txHold := none }.txHold := by decide
theorem witness_AppendStoresOrDrops :
    { busy with cfg := par 3 2 8 }.len < { busy with cfg := par 3 2 8 }.cfg.cap ∧
    ¬ { busy with cfg := par 2 2 0 }.len < { busy with cfg := par 2 2 0 }.cfg.cap ∧
    { busy with cfg := par 2 2 0 }.cfg.ovfCntW = 0 := by decide
theorem witness_DropsCountAndSaturate :
    ({ busy with cfg := par 2 2 1 }.cfg.cap ≤ busy.len ∧ 0 < { busy with cfg := par 2 2 1 }.cfg.ovfCntW) ∧
    ({ busy with cfg := par 2 2 0 }.cfg.cap ≤ busy.len ∧ { busy with cfg := par 2 2 0 }.cfg.ovfCntW = 0) ∧
    busy.len < busy.cfg.cap := by decide
theorem witness_DropsCountAndSaturate_reads :
    (∃ t, perform .take busy = .next t) ∧ (∃ t, perform .peek busy = .next t) ∧
    busy.ovfCnt ≤ 2 ^ busy.cfg.ovfCntW - 1 ∧ ∃ t, perform .translate busy = .next t :=
  ⟨⟨_, rfl⟩, ⟨_, rfl⟩, by decide, ⟨_, rfl⟩⟩
theorem witness_TranslateStoresWhatFits :
    busy.rxQ = 0x42#8 :: [] ∧ 0 < busy.cfg.ovfCntW ∧ busy.ovfCnt ≤ 2 ^ busy.cfg.ovfCntW - 1 ∧
    { busy with ovfCnt := 255 }.ovfCnt ≤ 2 ^ busy.cfg.ovfCntW - 1 := by decide
theorem witness_PartialEmissionKeepsTheMarker :
    busy.rxQ = 0x42#8 :: [] ∧ emission 0x42#8 = [0xF5#8, 0x62#8] ∧ busy.len + 2 ≤ busy.cfg.cap ∧
    { busy with cfg := par 3 2 8 }.len + 1 = { busy with cfg := par 3 2 8 }.cfg.cap ∧
    { busy with cfg := par 2 2 8 }.cfg.cap ≤ busy.len ∧
    emission 0x0D#8 = [0x0D#8] ∧ busy.len < { busy with cfg := par 3 2 8 }.cfg.cap := by decide
theorem witness_StepRunsTheDecodedInstruction :
    nextOp busy = .translate ∧ busy.rxQ = 0x42#8 :: [] ∧ decode [0x42#8] = .ok (.rx42ShiftAlpha, []) ∧
    Instr.rx42ShiftAlpha.wellFormed = true := by decide
theorem witness_StepPerformsTheChosenOperation : busy.agenda = .translate :: [] ∧ (lab 4 1 0).agenda = [] := by decide
theorem witness_ReceiveQueuesOrOverruns :
    busy.rxQ.length < busy.cfg.rxDepth ∧ ¬ { busy with cfg := par 4 1 8 }.rxQ.length < (par 4 1 8).rxDepth := by decide
theorem witness_TxDoneSendsThePendingByte : busy.txHold = some 0x10#8 := by decide
theorem witness_DisabledOperationsLetTheTurnPass : (lab 4 1 0).rxQ = [] ∧ (lab 4 1 0).txHold = none := by decide
/-- For `TakeReturnsAllAndEmpties`, `PeekReturnsAllAndKeeps` and `ReadingTwice`: a full, a part-full and an empty buffer. -/
theorem witness_readable :
    (∀ j, j < busy.len → (busy.slot j).isSome = true) ∧
    (∀ j, j < (lab 4 1 0).len → ((lab 4 1 0).slot j).isSome = true) ∧
    { busy with cfg := par 2 2 8 }.len = { busy with cfg := par 2 2 8 }.cfg.cap := by decide
theorem witness_ReadingTwice : { busy with rxQ := [0x41#8, 0x41#8] }.rxQ = 0x41#8 :: 0x41#8 :: [] := by decide
theorem witness_UnreadableSlotStopsTheRead :
    1 < { busy with buf := [(0, 0x0D#8)] }.len ∧ { busy with buf := [(0, 0x0D#8)] }.slot 1 = none ∧
    ∀ j, j < 1 → ({ busy with buf := [(0, 0x0D#8)] }.slot j).isSome = true := by decide
theorem witness_InvariantKeptByEveryStep : BlockInv busy := by decide
/-- For the statements about every step: a step that answers a next state. -/
theorem witness_step : ∃ t, step busy = .next t := ⟨_, rfl⟩
theorem witness_CanonicalMemoryKeptByEveryStep : Memory.wf busy.buf = true := by decide
theorem witness_ResponsesStayAccounted : ResponsesAccounted busy := by decide
theorem witness_OutboundStaysInResponseOrder : OutboundFollowsResponses busy := by decide
theorem witness_FaultFlagsAreSticky_rx :
    nextOp { busy with cfg := par 4 1 8, agenda := [.rx 0x43#8] } ≠ .reset ∧
    { busy with cfg := par 4 1 8, agenda := [.rx 0x43#8] }.rxOverrun = false ∧
    after (step { busy with cfg := par 4 1 8, agenda := [.rx 0x43#8] }) (·.rxOverrun) = some true := by decide
theorem witness_FaultFlagsAreSticky_tx :
    { busy with rxQ := [0xC3#8] }.txOverrun = false ∧
    after (step { busy with rxQ := [0xC3#8] }) (·.txOverrun) = some true := by decide
theorem witness_FaultFlagsAreSticky_kept :
    after (step { busy with rxOverrun := true, txOverrun := true }) (fun t => (t.rxOverrun, t.txOverrun)) =
      some (true, true) := by decide
theorem witness_OverrunsRecordTheDiscardedByte :
    { busy with cfg := par 4 1 8 }.cfg.rxDepth ≤ busy.rxQ.length ∧ { busy with rxQ := [0x0A#8] }.rxQ = 0x0A#8 :: [] ∧
    busy.txHold = some 0x10#8 := by decide
theorem witness_OperationsWriteOnlyTheirFields :
    Op.peek ∉ [Op.translate, .take, .reset] ∧ Op.peek ∉ [Op.translate, .txDone, .reset] ∧
    (Op.peek ≠ .reset ∧ Op.peek ≠ .rx 0x41#8) := by decide
/-- For `BytesAreTranslatedInArrivalOrder` and `DeliveredStreamGrowsInOrder`: each operation steps from `busy`. -/
theorem witness_each_operation_steps :
    ([.rx 0x43#8, .translate, .take, .peek, .txDone, .reset] : List Op).map
      (fun op => (after (step { busy with agenda := [op] }) (fun _ => ())).isSome) =
      [true, true, true, true, true, true] := by decide
theorem witness_EmissionsReadBackOneItemPerByte :
    ∀ b ∈ [0x41#8, 0x0A#8, 0xF4#8, 0xF7#8], b ≠ 0xF5#8 ∧ b ≠ 0xF6#8 := by decide
theorem witness_EmissionStreamsTellTheBytes :
    (∀ b ∈ [0x41#8, 0xC3#8], b ≠ 0xF5#8 ∧ b ≠ 0xF6#8) ∧
    [0x41#8, 0xC3#8].flatMap emission = [0x41#8, 0xC3#8].flatMap emission := by decide
theorem witness_LosslessTranslateReadsAsOneItem :
    BlockInv busy ∧ nextOp busy = .translate ∧ busy.rxQ = 0x42#8 :: [] ∧ 0x42#8 ≠ 0xF5#8 ∧ 0x42#8 ≠ 0xF6#8 ∧
    fits 0x42#8 busy ∧ decodeStream (delivered busy) = ([.shifted 0x61#8], .idle) := by decide
/-- The same statement where another operation is next: its premise on translated bytes asks nothing there. -/
theorem witness_LosslessTranslateReadsAsOneItem_other :
    BlockInv { busy with agenda := [.take] } ∧ nextOp { busy with agenda := [.take] } ≠ .translate ∧
    decodeStream (delivered { busy with agenda := [.take] }) = ([.shifted 0x61#8], .idle) := by decide
theorem witness_BytesAreTranslatedInArrivalOrder : nextOp busy = .translate ∧ busy.rxQ = 0x42#8 :: [] := by decide
theorem witness_StatusValuesAreDerived :
    { busy with cfg := par 2 2 8 }.full = true ∧ (lab 4 1 0).empty = true ∧ 1 ≤ busy.cfg.rxDepth ∧
    busy.rxQ = 0x42#8 :: [] ∧ busy.rxPending = true ∧ busy.full = false := by decide
theorem witness_HandlingLeavesTheRestAlone : busy.len ≤ busy.cfg.cap ∧ ¬ (busy.len ≤ 0 ∧ 0 < 4) := by decide

end Sys2Proof.Tests
end

section
/-! PROOFS. The choice of the next operation, and an operation that is not enabled (00_scope.md R5, R12). -/

namespace Sys2Proof.Machine

/-! ### The choice of the next operation (assumption 3) -/

theorem nextOp_of_agenda_cons {s : State} {op : Op} {rest : List Op} (h : s.agenda = op :: rest) : nextOp s = op := by
  simp [nextOp, h]

theorem nextOp_of_agenda_nil {s : State} (h : s.agenda = []) : nextOp s = Config.schedule s.turn := by
  simp [nextOp, h]

theorem advance_of_agenda_cons {s : State} {op : Op} {rest : List Op} (h : s.agenda = op :: rest) :
    advance s = { s with agenda := rest } := by
  simp [advance, h]

theorem advance_of_agenda_nil {s : State} (h : s.agenda = []) : advance s = { s with turn := s.turn + 1 } := by
  simp [advance, h]

/-- Settles O29: the agenda decides both the operation and what is used up. -/
theorem stepPerformsTheChosenOperation : Obligations.StepPerformsTheChosenOperation := by
  unfold Obligations.StepPerformsTheChosenOperation
  constructor
  · intro s op rest h
    rw [step, nextOp_of_agenda_cons h, advance_of_agenda_cons h]
  · intro s h
    rw [step, nextOp_of_agenda_nil h, advance_of_agenda_nil h]

/-! ### Enabling, and an operation that is not enabled (assumption 4) -/

theorem enabled_translate_eq_false_iff (s : State) : enabled .translate s = false ↔ s.rxQ = [] := by
  simp [enabled]

theorem enabled_txDone_eq_false_iff (s : State) : enabled .txDone s = false ↔ s.txHold = none := by
  simp [enabled]

theorem enterHandler_of_rxQ_nil {s : State} (h : s.rxQ = []) : enterHandler s = none := by
  simp [enterHandler, h]

theorem txDone_of_txHold_none {s : State} (h : s.txHold = none) : txDone s = none := by
  simp [txDone, h]

theorem perform_translate_of_rxQ_nil {s : State} (h : s.rxQ = []) : perform .translate s = .next s := by
  simp [perform, translateOldest, enterHandler_of_rxQ_nil h]

theorem perform_txDone_of_txHold_none {s : State} (h : s.txHold = none) : perform .txDone s = .next s := by
  simp [perform, txDone_of_txHold_none h]

/-- Settles O32: with `rx_q` empty the handler is not entered, and with nothing pending `txDone` gives no state. -/
theorem disabledOperationsLetTheTurnPass : Obligations.DisabledOperationsLetTheTurnPass := by
  unfold Obligations.DisabledOperationsLetTheTurnPass
  intro s
  constructor
  · intro hq
    exact ⟨(enabled_translate_eq_false_iff s).mpr hq, perform_translate_of_rxQ_nil hq⟩
  · intro hh
    exact ⟨(enabled_txDone_eq_false_iff s).mpr hh, perform_txDone_of_txHold_none hh⟩

end Sys2Proof.Machine
end

section
/-! PROOFS. What handling a received byte is, said once for all 256 rows: the appends of its emission, then the control
step on the byte itself (41_scan_translator.md R110, R111; 43_control_signals.md R190). -/

namespace Sys2Proof.Machine

/-! ### Rows as the handling of their byte -/

/-- Every row is the handling of its own byte with the emission the classification gives that byte. -/
theorem exec_eq_handleByte (i : Instr) (s : State) : exec i s = handleByte (opcode i) (emission (opcode i)) s := by
  cases i <;> rfl

/-- The table lists the rows in the order of their bytes, sixteen to a table row (30_encoding.md R80). -/
theorem map_opcode_tableRow (h : Fin 16) :
    ((instrTable.drop (16 * h)).take 16).map opcode = (List.range' (16 * h) 16).map (BitVec.ofNat 8) := by
  fin_cases h <;> rfl

/-- The byte stands in the table row of its high digit, in the column of its low digit. -/
theorem opcode_decodeByte (b : Byte) : opcode (decodeByte b) = b := by
  have hrow := congrArg (·[b.toNat % 16]?) (map_opcode_tableRow ⟨b.toNat / 16, by omega⟩)
  have hcol : b.toNat % 16 < 16 := Nat.mod_lt _ (by decide)
  simp only [List.getElem?_map, List.getElem?_take_of_lt hcol, List.getElem?_drop, List.getElem?_range' hcol, one_mul,
    Nat.div_add_mod, Option.map_some, Option.map_eq_some_iff, BitVec.ofNat_toNat, BitVec.setWidth_eq] at hrow
  obtain ⟨i, hi, hb⟩ := hrow
  rw [decodeByte, List.getD_eq_getElem?_getD, hi]
  exact hb

/-- The row a byte selects, as a next state. -/
theorem exec_decodeByte (b : Byte) (s : State) :
    exec (decodeByte b) s = .next (controlStep b (appendAll (emission b) s)) := by
  rw [exec_eq_handleByte, opcode_decodeByte]
  rfl

theorem exec_decodeByte_next {b : Byte} {s t : State} (h : exec (decodeByte b) s = .next t) :
    t = controlStep b (appendAll (emission b) s) := by
  rw [exec_decodeByte, Host.Outcome.next.injEq] at h
  exact h.symm

theorem exec_handles (i : Instr) (s : State) :
    ∃ t, exec i s = .next t ∧ Handles (opcode i) (emission (opcode i)) s t := by
  rw [exec_eq_handleByte]
  exact handleByte_handles _ _ s

theorem perform_translate_of_rxQ_cons {s : State} {b : Byte} {q : List Byte} (h : s.rxQ = b :: q) :
    perform .translate s = exec (decodeByte b) { s with rxQ := q } := by
  simp [perform, translateOldest, enterHandler, h]

/-! ### Appends and the link, field by field -/

@[simp] theorem appendAll_rxOverrun (ys : List Byte) (s : State) : (appendAll ys s).rxOverrun = s.rxOverrun := by
  obtain ⟨⟨-, -, h, -⟩, -⟩ := appendAll_keeps ys s
  exact h

@[simp] theorem appendAll_txHold (ys : List Byte) (s : State) : (appendAll ys s).txHold = s.txHold := by
  obtain ⟨-, h, -⟩ := appendAll_keeps ys s
  exact h

@[simp] theorem appendAll_txOverrun (ys : List Byte) (s : State) : (appendAll ys s).txOverrun = s.txOverrun := by
  obtain ⟨-, -, h, -⟩ := appendAll_keeps ys s
  exact h

@[simp] theorem appendAll_faultLog (ys : List Byte) (s : State) : (appendAll ys s).faultLog = s.faultLog := by
  obtain ⟨-, -, -, h, -⟩ := appendAll_keeps ys s
  exact h

/-! ### The control step and the sending of the pending byte, field by field -/

theorem triggerOf_isSome_iff (b : Byte) :
    (triggerOf b).isSome = true ↔ b = 0xC3#8 ∨ b = 0xB2#8 ∨ b = 0x0A#8 := by
  simp only [triggerOf]
  split_ifs <;> simp_all

@[simp] theorem controlStep_buf (b : Byte) (s : State) : (controlStep b s).buf = s.buf :=
  (controlStep_keeps b s).2.1

@[simp] theorem controlStep_rxOverrun (b : Byte) (s : State) : (controlStep b s).rxOverrun = s.rxOverrun := by
  obtain ⟨⟨-, -, h, -⟩, -⟩ := controlStep_keeps b s
  exact h

/-- `TX_OVERRUN` is raised exactly by a trigger byte while an outbound byte is pending (40_link_receiver.md R96). -/
@[simp] theorem controlStep_txOverrun (b : Byte) (s : State) :
    (controlStep b s).txOverrun = (s.txOverrun || ((triggerOf b).isSome && s.txHold.isSome)) := by
  unfold controlStep
  split <;> simp [*]

theorem controlStep_faultLog_grows (b : Byte) (s : State) : s.faultLog <+: (controlStep b s).faultLog := by
  unfold controlStep
  split
  · rw [notify_faultLog, tx_faultLog]
    split <;> simp
  · rfl

@[simp] theorem txDone_getD_buf (s : State) : ((txDone s).getD s).buf = s.buf := by
  unfold txDone; split <;> rfl

@[simp] theorem txDone_getD_rxOverrun (s : State) : ((txDone s).getD s).rxOverrun = s.rxOverrun := by
  unfold txDone; split <;> rfl

@[simp] theorem txDone_getD_txOverrun (s : State) : ((txDone s).getD s).txOverrun = s.txOverrun := by
  unfold txDone; split <;> rfl

@[simp] theorem txDone_getD_faultLog (s : State) : ((txDone s).getD s).faultLog = s.faultLog := by
  unfold txDone; split <;> rfl

end Sys2Proof.Machine
end

section
/-! PROOFS. The state: its reset values, the form of the buffer, the sticky flags and the derived status (10_state.md). -/

namespace Sys2Proof.Machine

/-! ### The state after reset -/

/-- Settles O38: every field is read off the reset state. -/
theorem resetStateHasTheResetValues : Obligations.ResetStateHasTheResetValues := by
  unfold Obligations.ResetStateHasTheResetValues
  exact ⟨fun _ => rfl, rfl, rfl, rfl, rfl, rfl, rfl, rfl, rfl⟩

theorem reset_blockInv : BlockInv State.reset :=
  ⟨params_wellFormed, rfl, Nat.zero_le _, Nat.zero_le _, Nat.zero_le _, rfl, rfl⟩

/-- Settles O40: the parameters are in range whatever they are, and everything counted is empty. -/
theorem resetHasTheInvariants : Obligations.ResetHasTheInvariants := by
  unfold Obligations.ResetHasTheInvariants
  exact ⟨reset_blockInv, rfl, List.nil_sublist _⟩

/-! ### A read that stops -/

theorem perform_take_of_readAll_error {s : State} {f : Fault} (h : readAll s = .error f) :
    perform .take s = .fault f := by
  simp [perform, take, h]

theorem perform_peek_of_readAll_error {s : State} {f : Fault} (h : readAll s = .error f) :
    perform .peek s = .fault f := by
  simp [perform, peek, h]

/-- Settles O35: both operations read all slots in order, and that read stops at the first one without a byte. -/
theorem unreadableSlotStopsTheRead : Obligations.UnreadableSlotStopsTheRead := by
  unfold Obligations.UnreadableSlotStopsTheRead
  intro s k hk hnone hbelow
  have hread : readAll s = .error (.unreadableSlot k) := readAll_error hk hbelow hnone
  exact ⟨perform_take_of_readAll_error hread, perform_peek_of_readAll_error hread⟩

/-! ### The canonical form of the buffer (assumption 7) -/

/-- The buffer is written by the appends of a `TRANSLATE`, which keep the form, and emptied by `TAKE` and `RESET`. -/
theorem perform_keeps_wf {op : Op} {s t : State} (h : perform op s = .next t) (hwf : Memory.wf s.buf = true) :
    Memory.wf t.buf = true := by
  rcases perform_cases h with ⟨b, -, rfl⟩ | ⟨-, -, rfl⟩ | ⟨b, q, -, -, hrow⟩ | ⟨xs, -, -, rfl⟩ | ⟨xs, -, -, rfl⟩ |
    ⟨-, rfl⟩ | ⟨-, rfl⟩
  · rwa [rx_buf]
  · exact hwf
  · obtain rfl := exec_decodeByte_next hrow
    rw [controlStep_buf]
    exact appendAll_wf _ _ hwf
  · exact Memory.wf_nil
  · exact hwf
  · rwa [txDone_getD_buf]
  · exact Memory.wf_nil

/-- Settles O41: the choice of the operation leaves the buffer alone, and every operation keeps its form. -/
theorem canonicalMemoryKeptByEveryStep : Obligations.CanonicalMemoryKeptByEveryStep := by
  unfold Obligations.CanonicalMemoryKeptByEveryStep
  intro s t hwf hstep
  exact perform_keeps_wf hstep (by rwa [advance_buf])

/-! ### The sticky fault flags (10_state.md R30; 60_exceptions.md R232, R233) -/

/-- An operation other than `RESET` leaves `rx_overrun` as it is, except an `RX` that finds no room, which sets it. -/
theorem perform_rxOverrun_cases {op : Op} {s t : State} (h : perform op s = .next t) (hop : op ≠ .reset) :
    t.rxOverrun = s.rxOverrun ∨
      t.rxOverrun = true ∧ (∃ b, op = .rx b) ∧ s.cfg.rxDepth ≤ s.rxQ.length := by
  rcases perform_cases h with ⟨b, rfl, rfl⟩ | ⟨-, -, rfl⟩ | ⟨b, q, -, -, hrow⟩ | ⟨xs, -, -, rfl⟩ | ⟨xs, -, -, rfl⟩ |
    ⟨-, rfl⟩ | ⟨hreset, -⟩
  · by_cases hroom : s.rxQ.length < s.cfg.rxDepth
    · exact .inl (by simp [hroom])
    · exact .inr ⟨by simp [Nat.le_of_not_lt hroom], ⟨b, rfl⟩, Nat.le_of_not_lt hroom⟩
  · exact .inl rfl
  · obtain rfl := exec_decodeByte_next hrow
    exact .inl (by simp)
  · exact .inl rfl
  · exact .inl rfl
  · exact .inl (txDone_getD_rxOverrun s)
  · exact absurd hreset hop

/-- An operation other than `RESET` leaves `tx_overrun` as it is, except a `TRANSLATE` of a trigger byte while an
outbound byte is pending, which sets it. -/
theorem perform_txOverrun_cases {op : Op} {s t : State} (h : perform op s = .next t) (hop : op ≠ .reset) :
    t.txOverrun = s.txOverrun ∨
      t.txOverrun = true ∧ op = .translate ∧ s.txHold ≠ none ∧
        ∃ b q, s.rxQ = b :: q ∧ (b = 0xC3#8 ∨ b = 0xB2#8 ∨ b = 0x0A#8) := by
  rcases perform_cases h with ⟨b, -, rfl⟩ | ⟨-, -, rfl⟩ | ⟨b, q, htr, hq, hrow⟩ | ⟨xs, -, -, rfl⟩ |
    ⟨xs, -, -, rfl⟩ | ⟨-, rfl⟩ | ⟨hreset, -⟩
  · exact .inl (rx_txOverrun b s)
  · exact .inl rfl
  · obtain rfl := exec_decodeByte_next hrow
    by_cases hover : (triggerOf b).isSome = true ∧ s.txHold.isSome = true
    · obtain ⟨htrig, hpend⟩ := hover
      exact .inr ⟨by simp [htrig, hpend], htr, Option.isSome_iff_ne_none.mp hpend, b, q, hq,
        (triggerOf_isSome_iff b).mp htrig⟩
    · have hno : ((triggerOf b).isSome && s.txHold.isSome) = false := by simpa using hover
      exact .inl (by simp [hno])
  · exact .inl rfl
  · exact .inl rfl
  · exact .inl (txDone_getD_txOverrun s)
  · exact absurd hreset hop

/-- No operation but `RESET` removes a recorded fault (assumption 6). -/
theorem perform_faultLog_grows {op : Op} {s t : State} (h : perform op s = .next t) (hop : op ≠ .reset) :
    s.faultLog <+: t.faultLog := by
  rcases perform_cases h with ⟨b, -, rfl⟩ | ⟨-, -, rfl⟩ | ⟨b, q, -, -, hrow⟩ | ⟨xs, -, -, rfl⟩ | ⟨xs, -, -, rfl⟩ |
    ⟨-, rfl⟩ | ⟨hreset, -⟩
  · rw [rx_faultLog]
    split <;> simp
  · rfl
  · obtain rfl := exec_decodeByte_next hrow
    simpa using controlStep_faultLog_grows b (appendAll (emission b) { s with rxQ := q })
  · rfl
  · rfl
  · rw [txDone_getD_faultLog]
  · exact absurd hreset hop

/-- Settles O45: each flag is kept or set by its one cause, so it is never cleared and only that cause sets it. -/
theorem faultFlagsAreSticky : Obligations.FaultFlagsAreSticky := by
  unfold Obligations.FaultFlagsAreSticky
  intro s t hstep hop
  have hrx := perform_rxOverrun_cases hstep hop
  have htx := perform_txOverrun_cases hstep hop
  have hlog := perform_faultLog_grows hstep hop
  simp only [advance_rxOverrun, advance_txOverrun, advance_faultLog, advance_cfg, advance_rxQ, advance_txHold]
    at hrx htx hlog
  refine ⟨fun hset => ?_, fun hset => ?_, hlog, fun hclear hset => ?_, fun hclear hset => ?_⟩
  · rcases hrx with hkept | ⟨hraised, -⟩
    · rw [hkept, hset]
    · exact hraised
  · rcases htx with hkept | ⟨hraised, -⟩
    · rw [hkept, hset]
    · exact hraised
  · rcases hrx with hkept | ⟨-, hcause⟩
    · simp [hkept, hclear] at hset
    · exact hcause
  · rcases htx with hkept | ⟨-, hcause⟩
    · simp [hkept, hclear] at hset
    · exact hcause

/-! ### The derived status (10_state.md R32; 60_exceptions.md R234) -/

theorem full_iff (s : State) : s.full = true ↔ s.len = s.cfg.cap := by simp [State.full]

theorem empty_iff (s : State) : s.empty = true ↔ s.len = 0 := by simp [State.empty]

theorem rxPending_iff (s : State) : s.rxPending = true ↔ s.rxQ ≠ [] := by simp [State.rxPending]

/-- Appends to a buffer without room store nothing (42_output_buffer.md R160, R168). -/
theorem Appended.keeps_of_cap_le {ys : List Byte} {s t : State} (h : Appended ys s t) (hcap : s.cfg.cap ≤ s.len) :
    t.len = s.len ∧ ∀ j, t.slot j = s.slot j := by
  obtain ⟨hlen, hslot, -⟩ := h
  have hsame : t.len = s.len := by omega
  refine ⟨hsame, fun j => ?_⟩
  rw [hslot, if_neg (by omega)]

theorem exec_of_full {s : State} (h : s.full = true) (i : Instr) :
    ∃ t, exec i s = .next t ∧ t.len = s.len ∧ ∀ j, t.slot j = s.slot j := by
  obtain ⟨t, hexec, happ, -⟩ := exec_handles i s
  exact ⟨t, hexec, happ.keeps_of_cap_le ((full_iff s).mp h).ge⟩

theorem perform_take_of_readAll_ok {s : State} {xs : List Byte} (h : readAll s = .ok xs) :
    perform .take s = .next { s with buf := [], len := 0, returned := s.returned ++ [.take xs] } := by
  simp [perform, take, h]

theorem readAll_of_empty {s : State} (h : s.empty = true) : readAll s = .ok [] := by
  rw [readAll, (empty_iff s).mp h, readFrom]

/-- A byte that is queued waits, and one that is discarded finds the queue at its depth, so not empty. -/
theorem rxPending_rx {s : State} (hdepth : 1 ≤ s.cfg.rxDepth) (b : Byte) : (rx b s).rxPending = true := by
  rw [rxPending_iff, rx_rxQ]
  split
  · simp
  · rename_i hfull
    exact List.ne_nil_of_length_pos (by omega)

theorem exec_keeps_rxQ (i : Instr) (s : State) : ∃ t, exec i s = .next t ∧ t.rxQ = s.rxQ := by
  obtain ⟨t, hexec, -, -, -, hrxQ, -⟩ := exec_handles i s
  exact ⟨t, hexec, hrxQ⟩

theorem rxPending_translate {s : State} {b : Byte} {q : List Byte} (h : s.rxQ = b :: q) :
    ∃ t, perform .translate s = .next t ∧ t.rxPending = !q.isEmpty := by
  obtain ⟨t, hexec, hrxQ⟩ := exec_keeps_rxQ (decodeByte b) { s with rxQ := q }
  exact ⟨t, by rw [perform_translate_of_rxQ_cons h, hexec], by rw [State.rxPending, hrxQ]⟩

/-- Settles O57: the four readings, then what a full, an empty and a pending state does. -/
theorem statusValuesAreDerived : Obligations.StatusValuesAreDerived := by
  unfold Obligations.StatusValuesAreDerived
  intro s
  refine ⟨full_iff s, empty_iff s, rxPending_iff s, rfl, exec_of_full, fun hempty => ?_, fun hdepth b => ?_,
    fun b q hq => rxPending_translate hq⟩
  · exact ⟨_, perform_take_of_readAll_ok (readAll_of_empty hempty), rfl⟩
  · exact ⟨rx b s, rfl, rxPending_rx hdepth b⟩

end Sys2Proof.Machine
end

section
/-! PROOFS. An operation performed twice in a row (20_memory.md R57). -/

namespace Sys2Proof.Machine

/-! ### Reads of the consumer in a row -/

/-- A read looks at the slots and `len`, not at the record of the lists returned before (assumption 5). -/
theorem memRead_of_returned (s : State) (rs : List Returned) (i : Nat) :
    memRead { s with returned := rs } i = memRead s i := rfl

theorem readFrom_of_returned (s : State) (rs : List Returned) (n i : Nat) :
    readFrom { s with returned := rs } i n = readFrom s i n := by
  induction n generalizing i with
  | zero => rfl
  | succ n ih => rw [readFrom, readFrom, memRead_of_returned, ih]

theorem readAll_of_returned (s : State) (rs : List Returned) : readAll { s with returned := rs } = readAll s :=
  readFrom_of_returned s rs s.len 0

theorem perform_peek_of_readAll_ok {s : State} {xs : List Byte} (h : readAll s = .ok xs) :
    perform .peek s = .next { s with returned := s.returned ++ [.peek xs] } := by
  simp [perform, peek, h]

theorem perform_peek_twice {s : State} {xs : List Byte} (h : readAll s = .ok xs) :
    ∃ t u, perform .peek s = .next t ∧ perform .peek t = .next u ∧
      u.returned = s.returned ++ [.peek xs, .peek xs] := by
  have hagain : readAll { s with returned := s.returned ++ [.peek xs] } = .ok xs := by rwa [readAll_of_returned]
  exact ⟨_, _, perform_peek_of_readAll_ok h, perform_peek_of_readAll_ok hagain, by simp⟩

/-- The first `TAKE` leaves an empty buffer, which the second one reads. -/
theorem perform_take_twice {s : State} {xs : List Byte} (h : readAll s = .ok xs) :
    ∃ t u, perform .take s = .next t ∧ perform .take t = .next u ∧
      u.returned = s.returned ++ [.take xs, .take []] := by
  have hagain : readAll { s with buf := [], len := 0, returned := s.returned ++ [.take xs] } = .ok [] :=
    readAll_of_empty ((empty_iff _).mpr rfl)
  exact ⟨_, _, perform_take_of_readAll_ok h, perform_take_of_readAll_ok hagain, by simp⟩

/-! ### Translations in a row -/

/-- `TRANSLATE` of a received byte takes it off `rx_q` and handles it (41_scan_translator.md R111). -/
theorem perform_translate_handles {s : State} {b : Byte} {q : List Byte} (h : s.rxQ = b :: q) :
    ∃ t, perform .translate s = .next t ∧ Handles b (emission b) { s with rxQ := q } t := by
  have hhandles := exec_handles (decodeByte b) { s with rxQ := q }
  rwa [opcode_decodeByte, ← perform_translate_of_rxQ_cons h] at hhandles

/-- The same in the terms of the state before the byte was taken off: appends do not look at `rx_q`. -/
theorem perform_translate_appended {s : State} {b : Byte} {q : List Byte} (h : s.rxQ = b :: q) :
    ∃ t, perform .translate s = .next t ∧ Appended (emission b) s t ∧ t.rxQ = q := by
  obtain ⟨t, hperform, happended, -, -, hrxQ, -⟩ := perform_translate_handles h
  exact ⟨t, hperform, happended, hrxQ⟩

/-- Settles O36: a `PEEK` keeps what the next read sees, a `TAKE` empties it, and the first `TRANSLATE` leaves the second
byte at the head of `rx_q`. -/
theorem readingTwice : Obligations.ReadingTwice := by
  unfold Obligations.ReadingTwice
  constructor
  · intro s hslots
    have hread : readAll s = .ok (stored s) := readAll_ok hslots
    exact ⟨⟨stored s, perform_peek_twice hread⟩, ⟨stored s, perform_take_twice hread⟩⟩
  · intro b q s hq
    obtain ⟨t, hfirst, happendedFirst, hqt⟩ := perform_translate_appended hq
    obtain ⟨u, hsecond, happendedSecond, -⟩ := perform_translate_appended hqt
    exact ⟨t, u, hfirst, hsecond, happendedFirst, happendedSecond⟩

end Sys2Proof.Machine
end

section
/-! PROOFS. The decoder and the encoder are inverse to each other (30_encoding.md R70, R74, R80). -/

namespace Sys2Proof.Machine

theorem decode_cons (b : Byte) (rest : List Byte) : decode (b :: rest) = .ok (decodeByte b, rest) := rfl

theorem encode_eq_singleton_iff (i : Instr) (b : Byte) : encode i = [b] ↔ opcode i = b := by
  simp [encode]

/-- The row stands in the table at the place its byte names. -/
theorem decodeByte_opcode (i : Instr) : decodeByte (opcode i) = i := by
  cases i <;> rfl

theorem encode_decodeByte (b : Byte) : encode (decodeByte b) = [b] :=
  (encode_eq_singleton_iff _ b).mpr (opcode_decodeByte b)

theorem decode_encode_append (i : Instr) (rest : List Byte) : decode (encode i ++ rest) = .ok (i, rest) := by
  rw [encode, List.singleton_append, decode_cons, decodeByte_opcode]

/-- No two rows share an encoding. -/
theorem eq_decodeByte_of_encode {j : Instr} {b : Byte} (h : encode j = [b]) : j = decodeByte b := by
  rw [← (encode_eq_singleton_iff j b).mp h, decodeByte_opcode]

/-- Settles O1: an encoding is the row's one byte, and that byte selects the row. -/
theorem decodeOfEncodeIsTheInstruction : Obligations.DecodeOfEncodeIsTheInstruction := by
  unfold Obligations.DecodeOfEncodeIsTheInstruction
  intro i rest _
  exact decode_encode_append i rest

/-- Settles O2: the row the byte selects has that byte as its encoding, and is the only one that has. -/
theorem everyByteIsExactlyOneInstruction : Obligations.EveryByteIsExactlyOneInstruction := by
  unfold Obligations.EveryByteIsExactlyOneInstruction
  intro b rest
  exact ⟨decodeByte b, decode_cons b rest, encode_decodeByte b, fun _ => eq_decodeByte_of_encode⟩

/-- Settles O3: each word written out is the encoding of its row with no bytes after it. -/
theorem writtenWordsDecodeToTheirRows : Obligations.WrittenWordsDecodeToTheirRows := by
  unfold Obligations.WrittenWordsDecodeToTheirRows
  exact ⟨decode_encode_append .rx0DExc [], decode_encode_append .rx1CCtrlLow [], decode_encode_append .rx40ShiftTab [],
    decode_encode_append .rx0ACtrlRange [], decode_encode_append .rx5AShiftAlpha [], decode_encode_append .rxC3Pass [],
    rfl⟩

end Sys2Proof.Machine
end

section
/-! PROOFS. The six classes: which bytes each has once priority is applied, what it emits, and how many bytes it has
(30_encoding.md R72; 41_scan_translator.md R110). -/

namespace Sys2Proof.Machine

/-! ### Where the sets of the rules lie

Priority decides only below `0x20`: the sets of rules 1 and 2 are disjoint and lie there, and the bytes of the shift
table lie above, outside the letters of rule 5. -/

theorem not_mem_excSet_of_mem_ctrlLowSet : ∀ b ∈ ctrlLowSet, b ∉ excSet := by decide

theorem le_of_mem_excSet : ∀ b ∈ excSet, b ≤ 0x1F#8 := by decide

theorem le_of_mem_ctrlLowSet : ∀ b ∈ ctrlLowSet, b ≤ 0x1F#8 := by decide

theorem shiftTab_outside_ranges :
    ∀ b ∈ shiftTab.map Prod.fst, ¬ b ≤ 0x1F#8 ∧ ¬ (0x41#8 ≤ b ∧ b ≤ 0x5A#8) := by decide

theorem shiftTab_lookup_isSome_iff (b : Byte) : (shiftTab.lookup b).isSome = true ↔ b ∈ shiftTab.map Prod.fst := by
  simp only [List.lookup_isSome_iff, beq_iff_eq, List.mem_map, @eq_comm _ b]

/-- The bytes of the shift table in rising order; `SHIFT_TAB` has the source's order (41_scan_translator.md R114). -/
theorem shiftTab_bytes_perm :
    (shiftTab.map Prod.fst).Perm [0x21#8, 0x22#8, 0x23#8, 0x24#8, 0x25#8, 0x26#8, 0x28#8, 0x29#8, 0x2A#8, 0x2B#8,
      0x3A#8, 0x3C#8, 0x3E#8, 0x3F#8, 0x40#8, 0x5E#8, 0x5F#8, 0x7B#8, 0x7C#8, 0x7D#8, 0x7E#8] := by
  decide

/-! ### The bytes of each class -/

theorem classify_eq_exc_iff (b : Byte) : classify b = .exc ↔ b ∈ excSet := by
  unfold classify
  split_ifs <;> simp_all

theorem classify_eq_ctrlLow_iff (b : Byte) : classify b = .ctrlLow ↔ b ∈ ctrlLowSet := by
  have hexc := not_mem_excSet_of_mem_ctrlLowSet b
  unfold classify
  split_ifs <;> simp_all

theorem classify_eq_shiftTab_iff (b : Byte) : classify b = .shiftTab ↔ b ∈ shiftTab.map Prod.fst := by
  have hexc := le_of_mem_excSet b
  have hlow := le_of_mem_ctrlLowSet b
  have htab := shiftTab_outside_ranges b
  rw [← shiftTab_lookup_isSome_iff] at htab ⊢
  unfold classify
  split_ifs <;> simp_all

theorem classify_eq_ctrlRange_iff (b : Byte) :
    classify b = .ctrlRange ↔ b ≤ 0x1F#8 ∧ b ∉ excSet ∧ b ∉ ctrlLowSet := by
  have htab := shiftTab_outside_ranges b
  rw [← shiftTab_lookup_isSome_iff] at htab
  unfold classify
  split_ifs <;> simp_all

theorem classify_eq_shiftAlpha_iff (b : Byte) : classify b = .shiftAlpha ↔ 0x41#8 ≤ b ∧ b ≤ 0x5A#8 := by
  have hexc := le_of_mem_excSet b
  have hlow := le_of_mem_ctrlLowSet b
  have htab := shiftTab_outside_ranges b
  have hlt : 0x41#8 ≤ b → ¬ b ≤ 0x1F#8 := by bv_omega
  rw [← shiftTab_lookup_isSome_iff] at htab
  unfold classify
  split_ifs <;> simp_all

theorem classify_eq_pass_iff (b : Byte) :
    classify b = .pass ↔ ¬ b ≤ 0x1F#8 ∧ b ∉ shiftTab.map Prod.fst ∧ ¬ (0x41#8 ≤ b ∧ b ≤ 0x5A#8) := by
  have hexc := le_of_mem_excSet b
  have hlow := le_of_mem_ctrlLowSet b
  rw [← shiftTab_lookup_isSome_iff]
  unfold classify
  split_ifs <;> simp_all

/-- Class 4 as intervals of byte values. -/
theorem ctrlRange_intervals (b : Byte) :
    (b ≤ 0x1F#8 ∧ b ∉ excSet ∧ b ∉ ctrlLowSet) ↔
      (0x01#8 ≤ b ∧ b ≤ 0x07#8) ∨ (0x0A#8 ≤ b ∧ b ≤ 0x0C#8) ∨ (0x0E#8 ≤ b ∧ b ≤ 0x1A#8) := by
  simp only [excSet, ctrlLowSet, List.mem_cons, List.not_mem_nil, or_false, ← BitVec.toNat_inj, BitVec.le_def,
    BitVec.reduceToNat]
  omega

/-- Class 6 as intervals of byte values. -/
theorem pass_intervals (b : Byte) :
    (¬ b ≤ 0x1F#8 ∧ b ∉ shiftTab.map Prod.fst ∧ ¬ (0x41#8 ≤ b ∧ b ≤ 0x5A#8)) ↔
      b = 0x20#8 ∨ b = 0x27#8 ∨ (0x2C#8 ≤ b ∧ b ≤ 0x39#8) ∨ b = 0x3B#8 ∨ b = 0x3D#8 ∨
        (0x5B#8 ≤ b ∧ b ≤ 0x5D#8) ∨ (0x60#8 ≤ b ∧ b ≤ 0x7A#8) ∨ 0x7F#8 ≤ b := by
  simp only [shiftTab, List.map_cons, List.map_nil, List.mem_cons, List.not_mem_nil, or_false, ← BitVec.toNat_inj,
    BitVec.le_def, BitVec.reduceToNat]
  omega

/-! ### The emission of each class -/

/-- Adding an offset that is not negative is the addition of bytes (00_scope.md R11). -/
theorem add8_natCast (b : Byte) (d : Nat) : add8 b d = b + BitVec.ofNat 8 d := by
  simp [add8, BitVec.ofInt_add]

theorem emission_of_plain {b : Byte} (h : classify b = .exc ∨ classify b = .pass) : emission b = [b] := by
  rcases h with h | h <;> simp [emission, h, plainItem]

theorem emission_of_ctrlLow {b : Byte} (h : classify b = .ctrlLow) : emission b = [0xF6#8, b + 0x40#8] := by
  simpa [emission, h, controlItem, ctrlMarker] using add8_natCast b 0x40

theorem emission_of_ctrlRange {b : Byte} (h : classify b = .ctrlRange) : emission b = [0xF6#8, b + 0x60#8] := by
  simpa [emission, h, controlItem, ctrlMarker] using add8_natCast b 0x60

theorem emission_of_shiftAlpha {b : Byte} (h : classify b = .shiftAlpha) : emission b = [0xF5#8, b + 0x20#8] := by
  simpa [emission, h, shiftItem, shiftMarker] using add8_natCast b 0x20

theorem emission_of_shiftTab {b : Byte} (h : classify b = .shiftTab) :
    ∃ d, shiftTab.lookup b = some d ∧ emission b = [0xF5#8, add8 b d] := by
  have hlisted := (shiftTab_lookup_isSome_iff b).mpr ((classify_eq_shiftTab_iff b).mp h)
  obtain ⟨d, hd⟩ := Option.isSome_iff_exists.mp hlisted
  exact ⟨d, hd, by simp [emission, h, hd, shiftItem, shiftMarker]⟩

/-- The six counts add to 256: the classes are a partition of the bytes (30_encoding.md R72). -/
theorem classify_counts :
    [ScanClass.exc, .ctrlLow, .shiftTab, .ctrlRange, .shiftAlpha, .pass].map
      (fun c => ((List.range 256).filter fun n => classify (BitVec.ofNat 8 n) = c).length) = [4, 5, 21, 23, 26, 177] := by
  rfl

/-- Settles O4: the sets as the rules in priority order leave them, the emission each rule gives, and the counts. -/
theorem classesHaveTheListedBytes : Obligations.ClassesHaveTheListedBytes := by
  unfold Obligations.ClassesHaveTheListedBytes
  refine ⟨fun b => ⟨classify_eq_exc_iff b, classify_eq_ctrlLow_iff b, ?_, ?_, classify_eq_shiftAlpha_iff b, ?_,
    emission_of_plain, emission_of_ctrlLow, emission_of_shiftTab, emission_of_ctrlRange, emission_of_shiftAlpha⟩,
    classify_counts⟩
  · exact (classify_eq_shiftTab_iff b).trans shiftTab_bytes_perm.mem_iff
  · exact (classify_eq_ctrlRange_iff b).trans (ctrlRange_intervals b)
  · exact (classify_eq_pass_iff b).trans (pass_intervals b)

end Sys2Proof.Machine
end

section
/-! PROOFS. The outbound link: only the responses to trigger bytes put a byte on it (30_encoding.md R78;
40_link_receiver.md R96 to R98). -/

namespace Sys2Proof.Machine

/-! ### What each operation does to the outbound bytes -/

@[simp] theorem appendAll_txWire (ys : List Byte) (s : State) : (appendAll ys s).txWire = s.txWire := by
  obtain ⟨⟨-, -, -, h, -⟩, -⟩ := appendAll_keeps ys s
  exact h

@[simp] theorem appendAll_notifyLog (ys : List Byte) (s : State) : (appendAll ys s).notifyLog = s.notifyLog := by
  obtain ⟨-, -, -, -, h⟩ := appendAll_keeps ys s
  exact h

@[simp] theorem txDone_getD_notifyLog (s : State) : ((txDone s).getD s).notifyLog = s.notifyLog := by
  unfold txDone; split <;> rfl

@[simp] theorem outbound_appendAll (ys : List Byte) (s : State) : outbound (appendAll ys s) = outbound s := by
  simp [outbound]

@[simp] theorem outbound_rx (b : Byte) (s : State) : outbound (rx b s) = outbound s := by
  simp [outbound]

@[simp] theorem outbound_advance (s : State) : outbound (advance s) = outbound s := by
  simp [outbound]

@[simp] theorem outbound_notify (k : TriggerKind) (s : State) : outbound (notify k s) = outbound s := rfl

@[simp] theorem outbound_resetBlock (s : State) : outbound (resetBlock s) = [] := rfl

/-- `TXDONE` moves the pending byte behind those sent (40_link_receiver.md R97). -/
@[simp] theorem outbound_txDone_getD (s : State) : outbound ((txDone s).getD s) = outbound s := by
  unfold txDone
  split <;> simp [outbound, *]

/-- `TX` puts the byte last, or loses it when one is pending (40_link_receiver.md R96). -/
@[simp] theorem outbound_tx (v : Byte) (s : State) :
    outbound (tx v s) = outbound s ++ if s.txHold.isSome then [] else [v] := by
  cases h : s.txHold <;> simp [outbound, h]

/-! ### The order of the responses -/

/-- Only the outbound bytes and the notifications matter. -/
theorem OutboundFollowsResponses.of_eq {s t : State} (h : OutboundFollowsResponses s) (hout : outbound t = outbound s)
    (hlog : t.notifyLog = s.notifyLog) : OutboundFollowsResponses t := by
  rwa [OutboundFollowsResponses, hout, hlog]

/-- A response is notified, and its byte goes out last or not at all. -/
theorem OutboundFollowsResponses.after_response {s : State} (h : OutboundFollowsResponses s) (k : TriggerKind) :
    OutboundFollowsResponses (notify k (tx (responseByte k) s)) := by
  have hsent : (if s.txHold.isSome then [] else [responseByte k]).Sublist [responseByte k] := by
    split <;> simp
  rw [OutboundFollowsResponses, outbound_notify, outbound_tx, notify_notifyLog, tx_notifyLog, List.map_append]
  exact h.append hsent

theorem OutboundFollowsResponses.after_controlStep {s : State} (h : OutboundFollowsResponses s) (b : Byte) :
    OutboundFollowsResponses (controlStep b s) := by
  unfold controlStep
  split
  · exact h.after_response _
  · exact h

theorem perform_keeps_outboundFollowsResponses {op : Op} {s t : State} (hop : perform op s = .next t)
    (h : OutboundFollowsResponses s) : OutboundFollowsResponses t := by
  rcases perform_cases hop with ⟨b, -, rfl⟩ | ⟨-, -, rfl⟩ | ⟨b, q, -, -, hrow⟩ | ⟨xs, -, -, rfl⟩ | ⟨xs, -, -, rfl⟩ |
    ⟨-, rfl⟩ | ⟨-, rfl⟩
  · exact h.of_eq (outbound_rx b s) (rx_notifyLog b s)
  · exact h
  · obtain rfl := exec_decodeByte_next hrow
    have happended : OutboundFollowsResponses (appendAll (emission b) { s with rxQ := q }) :=
      h.of_eq (outbound_appendAll _ _) (appendAll_notifyLog _ _)
    exact happended.after_controlStep b
  · exact h
  · exact h
  · exact h.of_eq (outbound_txDone_getD s) (txDone_getD_notifyLog s)
  · exact List.nil_sublist _

/-- Settles O44: the choice of the operation leaves the link alone, and every operation keeps the order. -/
theorem outboundStaysInResponseOrder : Obligations.OutboundStaysInResponseOrder := by
  unfold Obligations.OutboundStaysInResponseOrder
  intro s t h hstep
  exact perform_keeps_outboundFollowsResponses hstep (h.of_eq (outbound_advance s) (advance_notifyLog s))

end Sys2Proof.Machine
end

section
/-! PROOFS. The inbound and the outbound link: the queue of received bytes and the pending outbound byte
(40_link_receiver.md R92, R93, R97). -/

namespace Sys2Proof.Machine

/-! ### Receiving a byte (R92) -/

theorem perform_rx (b : Byte) (s : State) : perform (.rx b) s = .next (rx b s) := rfl

theorem rx_of_room {b : Byte} {s : State} (h : s.rxQ.length < s.cfg.rxDepth) :
    rx b s = { s with rxQ := s.rxQ ++ [b] } := by
  rw [rx, if_pos h]

theorem rx_of_no_room {b : Byte} {s : State} (h : ¬ s.rxQ.length < s.cfg.rxDepth) :
    rx b s = raiseFault .rxOverrun b s := by
  rw [rx, if_neg h]

/-- Settles O30: with room the byte is queued, without room the fault is raised, and no other field is written. -/
theorem receiveQueuesOrOverruns : Obligations.ReceiveQueuesOrOverruns := by
  unfold Obligations.ReceiveQueuesOrOverruns
  intro b s
  refine ⟨rfl, rx b s, perform_rx b s, fun hroom => ?_, fun hfull => ?_, rx_buf b s, rx_len b s, rx_txHold b s,
    rx_txOverrun b s, rx_ovfCnt b s, rx_txWire b s, rx_notifyLog b s, rx_cfg b s, rx_returned b s, rx_agenda b s,
    rx_turn b s⟩
  · rw [rx_of_room hroom]
    exact ⟨rfl, rfl, rfl⟩
  · rw [rx_of_no_room hfull]
    exact ⟨raiseRx_rxQ b s, raiseRx_rxOverrun b s, raiseRx_faultLog b s⟩

/-! ### Sending the pending byte (R97) -/

theorem enabled_txDone_iff (s : State) : enabled .txDone s = true ↔ s.txHold ≠ none := by
  rw [← Bool.not_eq_false, not_congr (enabled_txDone_eq_false_iff s)]

theorem txDone_of_txHold_some {s : State} {v : Byte} (h : s.txHold = some v) :
    txDone s = some { s with txHold := none, txWire := s.txWire ++ [v] } := by
  simp [txDone, h]

/-- Settles O31: `TXDONE` is enabled by the pending byte, and moves that byte to the end of the wire. -/
theorem txDoneSendsThePendingByte : Obligations.TxDoneSendsThePendingByte := by
  unfold Obligations.TxDoneSendsThePendingByte
  intro s
  refine ⟨enabled_txDone_iff s, fun v hv => ?_⟩
  rw [perform, txDone_of_txHold_some hv, Option.getD_some]

/-! ### The order of arrival (R93) -/

@[simp] theorem txDone_getD_rxQ (s : State) : ((txDone s).getD s).rxQ = s.rxQ := by
  unfold txDone; split <;> rfl

/-- The row of a byte does not look into the queue the byte was taken from (41_scan_translator.md R111). -/
theorem exec_rxQ {i : Instr} {s t : State} (h : exec i s = .next t) : t.rxQ = s.rxQ := by
  obtain ⟨u, hu, hq⟩ := exec_keeps_rxQ i s
  obtain rfl : u = t := by simpa [hu] using h
  exact hq

theorem step_of_rxQ_cons {s : State} {b : Byte} {q : List Byte} (hop : nextOp s = .translate) (hq : s.rxQ = b :: q) :
    step s = exec (decodeByte b) { advance s with rxQ := q } := by
  rw [step, hop]
  exact perform_translate_of_rxQ_cons (by rwa [advance_rxQ])

/-- Settles O48: `RX` writes at the end of the queue, `TRANSLATE` takes its head and runs that byte's row, `RESET`
empties it, and the others leave it alone. -/
theorem bytesAreTranslatedInArrivalOrder : Obligations.BytesAreTranslatedInArrivalOrder := by
  unfold Obligations.BytesAreTranslatedInArrivalOrder
  refine ⟨fun s t hstep => ?_, fun s b q => step_of_rxQ_cons⟩
  rcases perform_cases hstep with ⟨b, hop, rfl⟩ | ⟨hop, hq, rfl⟩ | ⟨b, q, hop, hq, hrow⟩ | ⟨xs, hop, -, rfl⟩ |
    ⟨xs, hop, -, rfl⟩ | ⟨hop, rfl⟩ | ⟨hop, rfl⟩ <;> rw [hop]
  · simp only [rx_rxQ, advance_rxQ, advance_cfg]
  · rw [advance_rxQ] at hq ⊢
    rw [hq, List.tail_nil]
  · rw [advance_rxQ] at hq
    rw [exec_rxQ hrow, hq, List.tail_cons]
  · exact advance_rxQ s
  · exact advance_rxQ s
  · rw [txDone_getD_rxQ, advance_rxQ]
  · exact resetBlock_rxQ _

end Sys2Proof.Machine
end

section
/-! PROOFS. The emission of a byte: what each rule gives, the shape it has, and that it tells the byte
(41_scan_translator.md R110, R114, R140, R141). -/

namespace Sys2Proof.Machine

/-! ### The emission of each rule, with the addition of 00_scope.md R11 -/

theorem emission_eq_add8_of_ctrlLow {b : Byte} (h : classify b = .ctrlLow) : emission b = [0xF6#8, add8 b 0x40] := by
  simp [emission, h, controlItem, ctrlMarker]

theorem emission_eq_add8_of_ctrlRange {b : Byte} (h : classify b = .ctrlRange) :
    emission b = [0xF6#8, add8 b 0x60] := by
  simp [emission, h, controlItem, ctrlMarker]

theorem emission_eq_add8_of_shiftAlpha {b : Byte} (h : classify b = .shiftAlpha) :
    emission b = [0xF5#8, add8 b 0x20] := by
  simp [emission, h, shiftItem, shiftMarker]

theorem classify_of_lookup {b : Byte} {d : Int} (h : shiftTab.lookup b = some d) : classify b = .shiftTab :=
  (classify_eq_shiftTab_iff b).mpr ((shiftTab_lookup_isSome_iff b).mp (by simp [h]))

theorem emission_of_lookup {b : Byte} {d : Int} (h : shiftTab.lookup b = some d) : emission b = [0xF5#8, add8 b d] := by
  obtain ⟨d', hd', hemission⟩ := emission_of_shiftTab (classify_of_lookup h)
  obtain rfl : d' = d := Option.some.inj (hd'.symm.trans h)
  exact hemission

/-- No byte has two entries, so each entry is the one the byte takes (41_scan_translator.md R114). -/
theorem lookup_of_mem_shiftTab : ∀ e ∈ shiftTab, shiftTab.lookup e.1 = some e.2 := by decide

theorem exists_mem_shiftTab {b : Byte} (h : classify b = .shiftTab) :
    ∃ d, (b, d) ∈ shiftTab ∧ emission b = [0xF5#8, add8 b d] := by
  obtain ⟨⟨b', d⟩, hmem, rfl⟩ := List.mem_map.mp ((classify_eq_shiftTab_iff b).mp h)
  exact ⟨d, hmem, emission_of_lookup (lookup_of_mem_shiftTab _ hmem)⟩

/-- The entries of the table with one offset, as one condition on the byte. -/
theorem emission_of_entries {bs : List Byte} {d : Int} (hentries : ∀ b ∈ bs, shiftTab.lookup b = some d) {b : Byte}
    (h : b ∈ bs) : emission b = [0xF5#8, add8 b d] :=
  emission_of_lookup (hentries b h)

/-- One rule of a chain in priority order: the value it gives where it matches, the rest of the chain where not. -/
theorem eq_ite_of {α : Type} {P : Prop} [Decidable P] {z x y : α} (hpos : P → z = x) (hneg : ¬ P → z = y) :
    z = if P then x else y :=
  iteInduction (motive := (z = ·)) hpos hneg

/-- Settles O5: each branch of the chain is a class or an entry of the table; the order of the rules leaves class 4 what
classes 1 and 2 do not take, and class 6 the rest. -/
theorem emissionIsTheFirstMatchingRule : Obligations.EmissionIsTheFirstMatchingRule := by
  unfold Obligations.EmissionIsTheFirstMatchingRule
  intro b
  refine eq_ite_of (fun hexc => ?_) fun hexc => eq_ite_of (fun hlow => ?_) fun hlow => ?_
  · exact emission_of_plain (.inl ((classify_eq_exc_iff b).mpr hexc))
  · exact emission_eq_add8_of_ctrlLow ((classify_eq_ctrlLow_iff b).mpr hlow)
  refine eq_ite_of (fun h => emission_of_entries (by decide) h) fun h10 =>
    eq_ite_of (fun h => emission_of_entries (bs := [0x26#8, 0x28#8]) (by decide) (by simpa using h)) fun h11 =>
    eq_ite_of (fun h => emission_of_lookup (h ▸ rfl)) fun h07 =>
    eq_ite_of (fun h => emission_of_lookup (h ▸ rfl)) fun h40 =>
    eq_ite_of (fun h => emission_of_lookup (h ▸ rfl)) fun h2A =>
    eq_ite_of (fun h => emission_of_lookup (h ▸ rfl)) fun h2B =>
    eq_ite_of (fun h => emission_of_lookup (h ▸ rfl)) fun h22 =>
    eq_ite_of (fun h => emission_of_lookup (h ▸ rfl)) fun h3A =>
    eq_ite_of (fun h => emission_of_entries (by decide) h) fun h3C =>
    eq_ite_of (fun h => emission_of_lookup (h ▸ rfl)) fun h5E =>
    eq_ite_of (fun h => emission_of_lookup (h ▸ rfl)) fun h5F =>
    eq_ite_of (fun h => emission_of_entries (by decide) h) fun h7B =>
    eq_ite_of (fun h => emission_of_lookup (h ▸ rfl)) fun h7E =>
    eq_ite_of (fun hrange => ?_) fun hrange => eq_ite_of (fun halpha => ?_) fun halpha => ?_
  · exact emission_eq_add8_of_ctrlRange ((classify_eq_ctrlRange_iff b).mpr ⟨hrange, hexc, hlow⟩)
  · exact emission_eq_add8_of_shiftAlpha ((classify_eq_shiftAlpha_iff b).mpr halpha)
  · have hentry : b ∉ shiftTab.map Prod.fst := by
      simp only [List.mem_cons, List.not_mem_nil, or_false, not_or] at h10 h11 h3C h7B
      simp only [shiftTab, List.map_cons, List.map_nil, List.mem_cons, List.not_mem_nil, or_false, not_or]
      tauto
    exact emission_of_plain (.inr ((classify_eq_pass_iff b).mpr ⟨hrange, hentry, halpha⟩))

/-! ### The second byte of an emission (R140) -/

/-- The fifty values of R140. -/
abbrev IsSecondByte (x : Byte) : Prop :=
  x = 0x27#8 ∨ (0x2C#8 ≤ x ∧ x ≤ 0x3B#8 ∧ x ≠ 0x3A#8) ∨ x = 0x3D#8 ∨ x = 0x40#8 ∨ (0x5B#8 ≤ x ∧ x ≤ 0x7A#8)

theorem IsSecondByte.not_isMarker {x : Byte} (h : IsSecondByte x) : isMarker x = false := by
  simp only [isMarker, shiftMarker, ctrlMarker, Bool.or_eq_false_iff, beq_eq_false_iff_ne]
  constructor <;> rintro rfl <;> revert h <;> decide

theorem isSecondByte_of_ctrlLow {b : Byte} (h : classify b = .ctrlLow) : IsSecondByte (add8 b 0x40) := by
  have hlisted : ∀ b ∈ ctrlLowSet, IsSecondByte (add8 b 0x40) := by decide
  exact hlisted b ((classify_eq_ctrlLow_iff b).mp h)

theorem isSecondByte_of_mem_shiftTab : ∀ e ∈ shiftTab, IsSecondByte (add8 e.1 e.2) := by decide

theorem shiftTab_sums_in_range : ∀ e ∈ shiftTab, 0 ≤ (e.1.toNat : Int) + e.2 ∧ (e.1.toNat : Int) + e.2 ≤ 255 := by
  decide

/-- Classes 4 and 5 give the letters. -/
theorem add8_ctrlRange_bounds {b : Byte} (h : classify b = .ctrlRange) :
    0x61#8 ≤ add8 b 0x60 ∧ add8 b 0x60 ≤ 0x7A#8 := by
  have hb := (ctrlRange_intervals b).mp ((classify_eq_ctrlRange_iff b).mp h)
  have hadd : add8 b 0x60 = b + 0x60#8 := add8_natCast b 0x60
  bv_omega

theorem add8_shiftAlpha_bounds {b : Byte} (h : classify b = .shiftAlpha) :
    0x61#8 ≤ add8 b 0x20 ∧ add8 b 0x20 ≤ 0x7A#8 := by
  have hb := (classify_eq_shiftAlpha_iff b).mp h
  have hadd : add8 b 0x20 = b + 0x20#8 := add8_natCast b 0x20
  bv_omega

theorem isSecondByte_of_letter {x : Byte} (h : 0x61#8 ≤ x ∧ x ≤ 0x7A#8) : IsSecondByte x := by
  have hle : 0x5B#8 ≤ x := by bv_omega
  exact .inr (.inr (.inr (.inr ⟨hle, h.2⟩)))

/-- An emission of two bytes is a marker and one of the fifty values. -/
theorem emission_of_two {b : Byte} (h : classify b ∈ [ScanClass.ctrlLow, .shiftTab, .ctrlRange, .shiftAlpha]) :
    ∃ m x, emission b = [m, x] ∧ isMarker m = true ∧ IsSecondByte x := by
  simp only [List.mem_cons, List.not_mem_nil, or_false] at h
  rcases h with h | h | h | h
  · exact ⟨_, _, emission_eq_add8_of_ctrlLow h, rfl, isSecondByte_of_ctrlLow h⟩
  · obtain ⟨d, hmem, hemission⟩ := exists_mem_shiftTab h
    exact ⟨_, _, hemission, rfl, isSecondByte_of_mem_shiftTab _ hmem⟩
  · exact ⟨_, _, emission_eq_add8_of_ctrlRange h, rfl, isSecondByte_of_letter (add8_ctrlRange_bounds h)⟩
  · exact ⟨_, _, emission_eq_add8_of_shiftAlpha h, rfl, isSecondByte_of_letter (add8_shiftAlpha_bounds h)⟩

theorem emission_shape (b : Byte) :
    emission b = [b] ∨ ∃ m x, emission b = [m, x] ∧ isMarker m = true ∧ IsSecondByte x := by
  by_cases hplain : classify b = .exc ∨ classify b = .pass
  · exact .inl (emission_of_plain hplain)
  · exact .inr (emission_of_two (by cases hclass : classify b <;> simp_all))

theorem emission_ne_nil (b : Byte) : emission b ≠ [] := by
  rcases emission_shape b with h | ⟨m, x, h, -, -⟩ <;> simp [h]

/-- The fifty values by where they come from: class 2, the table, and the letters of class 5. -/
theorem IsSecondByte.sources {x : Byte} (h : IsSecondByte x) :
    x ∈ ctrlLowSet.map (add8 · 0x40) ∨ x ∈ shiftTab.map (fun e => add8 e.1 e.2) ∨ (0x61#8 ≤ x ∧ x ≤ 0x7A#8) := by
  have hlow : ctrlLowSet.map (add8 · 0x40) = [0x40#8, 0x5C#8, 0x5D#8, 0x5E#8, 0x5F#8] := rfl
  have htab : (shiftTab.map fun e => add8 e.1 e.2).Perm [0x27#8, 0x2C#8, 0x2D#8, 0x2E#8, 0x2F#8, 0x30#8, 0x31#8, 0x32#8,
      0x33#8, 0x34#8, 0x35#8, 0x36#8, 0x37#8, 0x38#8, 0x39#8, 0x3B#8, 0x3D#8, 0x5B#8, 0x5C#8, 0x5D#8, 0x60#8] := by
    decide
  rw [hlow, htab.mem_iff]
  unfold IsSecondByte at h
  simp only [List.mem_cons, List.not_mem_nil, or_false]
  bv_omega

theorem exists_emission_of_isSecondByte {x : Byte} (h : IsSecondByte x) : ∃ b m, emission b = [m, x] := by
  rcases h.sources with hlow | htab | hletter
  · obtain ⟨b, hb, rfl⟩ := List.mem_map.mp hlow
    exact ⟨b, _, emission_eq_add8_of_ctrlLow ((classify_eq_ctrlLow_iff b).mpr hb)⟩
  · obtain ⟨e, he, rfl⟩ := List.mem_map.mp htab
    exact ⟨e.1, _, emission_of_lookup (lookup_of_mem_shiftTab e he)⟩
  · have halpha : classify (x - 0x20#8) = .shiftAlpha := (classify_eq_shiftAlpha_iff _).mpr (by bv_omega)
    exact ⟨x - 0x20#8, _, by rw [emission_of_shiftAlpha halpha, BitVec.sub_add_cancel]⟩

/-- Settles O6: the lengths and the second bytes by class, the offsets within the range of each class, and where each
of the fifty values comes from. -/
theorem emissionShapeAndSecondBytes : Obligations.EmissionShapeAndSecondBytes := by
  unfold Obligations.EmissionShapeAndSecondBytes
  refine ⟨fun b => ⟨fun h => ?_, fun h => ?_, fun h => ?_, fun h => ?_, fun h => ?_⟩, shiftTab_sums_in_range,
    fun x => exists_emission_of_isSecondByte, rfl⟩
  · rw [emission_of_plain (by simpa using h), List.length_singleton]
  · obtain ⟨m, x, hemission, hm, hx⟩ := emission_of_two h
    exact ⟨m, x, hemission, hm, hx.not_isMarker, hx⟩
  · have hb := le_of_mem_ctrlLowSet b ((classify_eq_ctrlLow_iff b).mp h)
    bv_omega
  · have hb := ((classify_eq_ctrlRange_iff b).mp h).1
    bv_omega
  · have hb := (classify_eq_shiftAlpha_iff b).mp h
    bv_omega

/-! ### The byte an emission comes from (R141) -/

/-- The byte read back from its emission: after the shift marker the table is searched before the letters, and after
the control marker the two offsets of classes 2 and 4 give second bytes in disjoint ranges. -/
def sourceByte : List Byte → Byte
  | [m, x] =>
    if m = ctrlMarker then if x ≤ 0x5F#8 then x - 0x40#8 else x - 0x60#8
    else ((shiftTab.find? fun e => add8 e.1 e.2 == x).map Prod.fst).getD (x - 0x20#8)
  | ys => ys.headD 0#8

theorem sourceByte_shiftTab : ∀ e ∈ shiftTab, sourceByte [0xF5#8, add8 e.1 e.2] = e.1 := by decide

theorem sourceByte_ctrlLow : ∀ b ∈ ctrlLowSet, sourceByte [0xF6#8, add8 b 0x40] = b := by decide

theorem sourceByte_ctrl_letter {x : Byte} (h : 0x61#8 ≤ x) : sourceByte [0xF6#8, x] = x - 0x60#8 := by
  rw [sourceByte, if_pos (by decide), if_neg (by bv_omega)]

theorem sourceByte_shift_letter {x : Byte} (h : 0x61#8 ≤ x) : sourceByte [0xF5#8, x] = x - 0x20#8 := by
  have hbelow : ∀ e ∈ shiftTab, add8 e.1 e.2 ≤ 0x60#8 := by decide
  have hnone : (shiftTab.find? fun e => add8 e.1 e.2 == x) = none := by
    refine List.find?_eq_none.mpr fun e he heq => ?_
    have hle := hbelow e he
    rw [eq_of_beq heq] at hle
    bv_omega
  rw [sourceByte, if_neg (by decide), hnone]
  rfl

theorem sourceByte_emission (b : Byte) : sourceByte (emission b) = b := by
  cases h : classify b with
  | exc => rw [emission_of_plain (.inl h)]; rfl
  | ctrlLow =>
    rw [emission_eq_add8_of_ctrlLow h]
    exact sourceByte_ctrlLow b ((classify_eq_ctrlLow_iff b).mp h)
  | shiftTab =>
    obtain ⟨d, hmem, hemission⟩ := exists_mem_shiftTab h
    rw [hemission]
    exact sourceByte_shiftTab _ hmem
  | ctrlRange =>
    have hadd : add8 b 0x60 = b + 0x60#8 := add8_natCast b 0x60
    rw [emission_eq_add8_of_ctrlRange h, sourceByte_ctrl_letter (add8_ctrlRange_bounds h).1, hadd,
      BitVec.add_sub_cancel]
  | shiftAlpha =>
    have hadd : add8 b 0x20 = b + 0x20#8 := add8_natCast b 0x20
    rw [emission_eq_add8_of_shiftAlpha h, sourceByte_shift_letter (add8_shiftAlpha_bounds h).1, hadd,
      BitVec.add_sub_cancel]
  | pass => rw [emission_of_plain (.inr h)]; rfl

theorem emission_injective : Function.Injective emission :=
  Function.LeftInverse.injective sourceByte_emission

/-- Settles O7: the byte can be read back from its emission. -/
theorem emissionTellsTheByte : Obligations.EmissionTellsTheByte := by
  unfold Obligations.EmissionTellsTheByte
  intro b c h
  exact emission_injective h

/-! ### The bytes a stream of emissions comes from (R141) -/

/-- The first byte of an emission tells its length, unless a marker value was received (30_encoding.md R76). -/
theorem emission_length_eq_itemLength {b : Byte} (h : isMarker b = false) :
    ∃ y ys, emission b = y :: ys ∧ (emission b).length = itemLength y := by
  rcases emission_shape b with hplain | ⟨m, x, htwo, hm, -⟩
  · exact ⟨b, [], hplain, by simp [hplain, itemLength, h]⟩
  · exact ⟨m, [x], htwo, by simp [htwo, itemLength, hm]⟩

/-- Of bytes that are no marker values, no emission is the beginning of another. -/
theorem emission_append_inj {b c : Byte} (hb : isMarker b = false) (hc : isMarker c = false) {xs ys : List Byte}
    (h : emission b ++ xs = emission c ++ ys) : b = c ∧ xs = ys := by
  obtain ⟨y, bs, hbs, hlenb⟩ := emission_length_eq_itemLength hb
  obtain ⟨z, cs, hcs, hlenc⟩ := emission_length_eq_itemLength hc
  obtain rfl : y = z := by
    rw [hbs, hcs] at h
    exact (List.cons.inj h).1
  obtain ⟨hemission, hrest⟩ := List.append_inj h (hlenb.trans hlenc.symm)
  exact ⟨emission_injective hemission, hrest⟩

theorem isMarker_eq_false_iff (b : Byte) : isMarker b = false ↔ b ≠ 0xF5#8 ∧ b ≠ 0xF6#8 := by
  simp [isMarker, shiftMarker, ctrlMarker]

theorem flatMap_emission_inj {bs cs : List Byte} (hbs : ∀ b ∈ bs, isMarker b = false)
    (hcs : ∀ c ∈ cs, isMarker c = false) (h : bs.flatMap emission = cs.flatMap emission) : bs = cs := by
  induction bs generalizing cs with
  | nil =>
    cases cs with
    | nil => rfl
    | cons c cs => simp [emission_ne_nil] at h
  | cons b bs ih =>
    cases cs with
    | nil => simp [emission_ne_nil] at h
    | cons c cs =>
      rw [List.forall_mem_cons] at hbs hcs
      obtain ⟨rfl, hrest⟩ := emission_append_inj hbs.1 hcs.1 h
      rw [ih hbs.2 hcs.2 hrest]

/-- Settles O52: the emissions are taken off the stream one by one, each told by its first byte and its length. -/
theorem emissionStreamsTellTheBytes : Obligations.EmissionStreamsTellTheBytes := by
  unfold Obligations.EmissionStreamsTellTheBytes
  intro bs cs hbs hcs h
  exact flatMap_emission_inj (fun b hb => (isMarker_eq_false_iff b).mpr (hbs b hb))
    (fun c hc => (isMarker_eq_false_iff c).mpr (hcs c hc)) h

/-! ### The rules by the source's names (R110; 00_scope.md R14) -/

theorem remapRule_eq_exceptionPassThrough_iff (b : Byte) :
    remapRule b = .exceptionPassThrough ↔ classify b = .exc := by
  unfold remapRule
  split <;> simp [*]

theorem remapRule_eq_ctrlOffsetLow_iff (b : Byte) : remapRule b = .ctrlOffsetLow ↔ classify b = .ctrlLow := by
  unfold remapRule
  split <;> simp [*]

theorem remapRule_eq_ctrlOffsetHigh_iff (b : Byte) : remapRule b = .ctrlOffsetHigh ↔ classify b = .ctrlRange := by
  unfold remapRule
  split <;> simp [*]

theorem remapRule_eq_passThrough_iff (b : Byte) : remapRule b = .passThrough ↔ classify b = .pass := by
  unfold remapRule
  split <;> simp [*]

theorem remapRule_of_lookup {b : Byte} {d : Int} (h : shiftTab.lookup b = some d) : remapRule b = .shiftOffset d := by
  simp [remapRule, classify_of_lookup h, h]

theorem remapRule_of_shiftAlpha {b : Byte} (h : classify b = .shiftAlpha) : remapRule b = .shiftOffset 0x20 := by
  simp [remapRule, h]

/-- `ShiftOffset` stands for two rules: the entries of the table and the letters. -/
theorem remapRule_shiftOffset {b : Byte} {d : Int} (h : remapRule b = .shiftOffset d) :
    shiftTab.lookup b = some d ∨ classify b = .shiftAlpha ∧ d = 0x20 := by
  cases hc : classify b with
  | shiftTab =>
    obtain ⟨d', hd', -⟩ := emission_of_shiftTab hc
    simp_all [remapRule]
  | shiftAlpha => simp_all [remapRule]
  | _ => simp [remapRule, hc] at h

/-- Settles O15: the names follow the classes one by one, and `ShiftOffset` splits into the table and the letters. -/
theorem remapRulesFollowTheClasses : Obligations.RemapRulesFollowTheClasses := by
  unfold Obligations.RemapRulesFollowTheClasses
  intro b
  refine ⟨(remapRule_eq_exceptionPassThrough_iff b).symm, (remapRule_eq_ctrlOffsetLow_iff b).symm,
    (remapRule_eq_ctrlOffsetHigh_iff b).symm, (remapRule_eq_passThrough_iff b).symm, fun h => ?_,
    remapRule_of_shiftAlpha, fun h => ?_, fun h => ?_, fun h => ?_, fun h => ?_, fun d h => ?_⟩
  · obtain ⟨d, hd, -⟩ := emission_of_shiftTab h
    exact ⟨d, hd, remapRule_of_lookup hd⟩
  · exact emission_of_plain (.inl ((remapRule_eq_exceptionPassThrough_iff b).mp h))
  · exact emission_eq_add8_of_ctrlLow ((remapRule_eq_ctrlOffsetLow_iff b).mp h)
  · exact emission_eq_add8_of_ctrlRange ((remapRule_eq_ctrlOffsetHigh_iff b).mp h)
  · exact emission_of_plain (.inr ((remapRule_eq_passThrough_iff b).mp h))
  · rcases remapRule_shiftOffset h with hd | ⟨halpha, rfl⟩
    · exact ⟨.inl (classify_of_lookup hd), emission_of_lookup hd⟩
    · exact ⟨.inr halpha, emission_eq_add8_of_shiftAlpha halpha⟩

end Sys2Proof.Machine
end

section
/-! PROOFS. The 256 rows: each is the classification algorithm on its byte, with the whole effect of that byte in every
state and from reset (41_scan_translator.md R111 to R138; 30_encoding.md R79). -/

namespace Sys2Proof.Machine

/-! ### The algorithm and its frame -/

/-- Settles O16: a row handles its own byte, and the handling is the appends and then the control step. -/
theorem everyInstructionRunsTheClassification : Obligations.EveryInstructionRunsTheClassification := by
  unfold Obligations.EveryInstructionRunsTheClassification
  intro i s
  rw [exec_eq_handleByte, handleByte, leaveHandler_eq]

theorem Appended.len_bounds {ys : List Byte} {s t : State} (h : Appended ys s t) :
    s.len ≤ t.len ∧ t.len ≤ s.len + ys.length ∧ (s.len ≤ s.cfg.cap → t.len ≤ s.cfg.cap) := by
  obtain ⟨hlen, -, -⟩ := h
  omega

theorem Appended.slot_of_not_new {ys : List Byte} {s t : State} (h : Appended ys s t) {j : Nat}
    (hj : ¬ (s.len ≤ j ∧ j < t.len)) : t.slot j = s.slot j := by
  obtain ⟨-, hslot, -⟩ := h
  rw [hslot, if_neg hj]

/-- Settles O56: the frame is part of what a row does; the rest is read off its appends. -/
theorem handlingLeavesTheRestAlone : Obligations.HandlingLeavesTheRestAlone := by
  unfold Obligations.HandlingLeavesTheRestAlone
  intro i s
  obtain ⟨t, hexec, happended, -, hkeeps⟩ := exec_handles i s
  obtain ⟨hgrown, hlength, hcap⟩ := happended.len_bounds
  exact ⟨t, hexec, hkeeps, hgrown, hlength, hcap, fun _ => happended.slot_of_not_new⟩

/-- Settles O28: the byte at the head of `rx_q` selects the row, and no byte is rejected. -/
theorem stepRunsTheDecodedInstruction : Obligations.StepRunsTheDecodedInstruction := by
  unfold Obligations.StepRunsTheDecodedInstruction
  intro s b q i hop hq hdecode _
  rw [decode_cons] at hdecode
  obtain rfl : decodeByte b = i := congrArg Prod.fst (Except.ok.inj hdecode)
  exact step_of_rxQ_cons hop hq

/-! ### From reset (30_encoding.md R79) -/

/-- Appends to an empty buffer with room store exactly the list, and count nothing. -/
theorem Appended.of_empty {ys : List Byte} {s t : State} (h : Appended ys s t) (hlen : s.len = 0)
    (hslot : ∀ j, s.slot j = none) (hroom : ys.length ≤ s.cfg.cap) :
    t.len = ys.length ∧ (∀ j, t.slot j = ys[j]?) ∧ t.ovfCnt = s.ovfCnt := by
  obtain ⟨htlen, htslot, htovf⟩ := h
  have hall : t.len = ys.length := by omega
  refine ⟨hall, fun j => ?_, ?_⟩
  · rw [htslot, hlen, hall, hslot, Nat.sub_zero]
    split
    · rfl
    · rw [List.getElem?_eq_none (by omega)]
  · rw [htovf, if_pos (.inr (by omega))]

theorem Responds.of_idle {k : TriggerKind} {v : Byte} {s t : State} (h : Responds k v s t) (hidle : s.txHold = none) :
    (t.txHold = some v ∧ t.notifyLog = s.notifyLog ++ [k]) ∧ t.txOverrun = s.txOverrun := by
  obtain ⟨hlog, hfree, -⟩ := h
  obtain ⟨hhold, hoverrun, -⟩ := hfree hidle
  exact ⟨⟨hhold, hlog⟩, hoverrun⟩

/-- While no outbound byte is pending, no response can overrun (40_link_receiver.md R96). -/
theorem ControlEffect.txOverrun_of_idle {b : Byte} {s t : State} (h : ControlEffect b s t) (hidle : s.txHold = none) :
    t.txOverrun = s.txOverrun := by
  obtain ⟨hC3, hB2, h0A, hnone⟩ := h
  by_cases hbC3 : b = 0xC3#8
  · exact ((hC3 hbC3).of_idle hidle).2
  by_cases hbB2 : b = 0xB2#8
  · exact ((hB2 hbB2).of_idle hidle).2
  by_cases hb0A : b = 0x0A#8
  · exact ((h0A hb0A).of_idle hidle).2
  obtain ⟨-, hoverrun, -⟩ := hnone ⟨hbC3, hbB2, hb0A⟩
  exact hoverrun

/-- `IN b` from reset is an `RX` that finds room and a `TRANSLATE` into an empty buffer with an idle link. -/
theorem inFromReset (b : Byte) : InFromReset b (emission b) := by
  intro p hp hroom
  simp only [Params.wellFormed, Bool.and_eq_true, decide_eq_true_eq] at hp
  obtain ⟨⟨-, hdepth⟩, -⟩ := hp
  have hqueued : perform (.rx b) { State.reset with cfg := p } = .next { State.reset with cfg := p, rxQ := [b] } := by
    rw [perform_rx, rx_of_room (s := { State.reset with cfg := p }) hdepth]
    rfl
  obtain ⟨u, htranslate, happended, hcontrol, -, hrxQ, hrxOverrun, htxWire, -⟩ :=
    perform_translate_handles (s := { State.reset with cfg := p, rxQ := [b] }) rfl
  obtain ⟨hlen, hslot, hovf⟩ := happended.of_empty rfl (fun _ => rfl) hroom
  have htxOverrun : u.txOverrun = false := hcontrol.txOverrun_of_idle rfl
  obtain ⟨hC3, hB2, h0A, hnone⟩ := hcontrol
  refine ⟨_, u, hqueued, htranslate, hrxQ, hlen, hslot, ?_, htxWire, hovf,
    fun h => ((hC3 h).of_idle rfl).1, fun h => ((hB2 h).of_idle rfl).1, fun h => ((h0A h).of_idle rfl).1, fun h => ?_⟩
  · rw [State.faultFree, hrxOverrun, htxOverrun]
    rfl
  · obtain ⟨htxHold, -, -, hlog⟩ := hnone h
    exact ⟨htxHold, hlog⟩

/-! ### The rows class by class -/

/-- What every row does with its byte, once the emission is known. -/
theorem row_of_emission {i : Instr} {b : Byte} {ys : List Byte} (hbyte : opcode i = b) (hemission : emission b = ys) :
    InFromReset b ys ∧ ∀ s, ∃ t, exec i s = .next t ∧ Handles b ys s t := by
  subst hbyte hemission
  exact ⟨inFromReset _, exec_handles i⟩

theorem decodeByte_of_opcode {i : Instr} {b : Byte} (h : opcode i = b) : decodeByte b = i := by
  rw [← h, decodeByte_opcode]

/-- The three trigger bytes are in classes 4 and 6 (43_control_signals.md R191 to R193). -/
theorem triggerOf_eq_none {b : Byte} (hrange : classify b ≠ .ctrlRange) (hpass : classify b ≠ .pass) :
    triggerOf b = none := by
  rw [← Option.not_isSome_iff_eq_none, triggerOf_isSome_iff]
  rintro (rfl | rfl | rfl)
  · exact hpass rfl
  · exact hpass rfl
  · exact hrange rfl

/-- Settles O8: the four rows are in class 1, whose emission is the byte. -/
theorem exceptionBytesAreStoredAsTheyAre : Obligations.ExceptionBytesAreStoredAsTheyAre := by
  unfold Obligations.ExceptionBytesAreStoredAsTheyAre
  intro i b hrow
  obtain ⟨hbyte, hclass⟩ : opcode i = b ∧ classify b = .exc :=
    (by decide : ∀ e ∈ _, opcode e.1 = e.2 ∧ classify e.2 = .exc) _ hrow
  have hemission : emission b = [b] := emission_of_plain (.inl hclass)
  exact ⟨decodeByte_of_opcode hbyte, hclass, hemission, triggerOf_eq_none (by simp [hclass]) (by simp [hclass]),
    row_of_emission hbyte hemission⟩

/-- Settles O9: the five rows are in class 2, with the sums as listed. -/
theorem lowControlBytesShiftByForty : Obligations.LowControlBytesShiftByForty := by
  unfold Obligations.LowControlBytesShiftByForty
  intro i b x hrow
  obtain ⟨hbyte, hclass, rfl⟩ : opcode i = b ∧ classify b = .ctrlLow ∧ add8 b 0x40 = x :=
    (by decide : ∀ e ∈ _, opcode e.1 = e.2.1 ∧ classify e.2.1 = .ctrlLow ∧ add8 e.2.1 0x40 = e.2.2) _ hrow
  have hemission := emission_eq_add8_of_ctrlLow hclass
  obtain ⟨hreset, hexec⟩ := row_of_emission hbyte hemission
  exact ⟨decodeByte_of_opcode hbyte, hclass, hemission, rfl, hreset, hexec⟩

/-- A row of class 3 does with its byte what the byte's entry of the table says (41_scan_translator.md R114). -/
theorem shiftTab_row {i : Instr} {b : Byte} {d : Int} {x : Byte} (hbyte : opcode i = b) (hentry : (b, d) ∈ shiftTab)
    (hsum : add8 b d = x) :
    decodeByte b = i ∧ classify b = .shiftTab ∧ shiftTab.lookup b = some d ∧
    emission b = [0xF5#8, add8 b d] ∧ add8 b d = x ∧ 0 ≤ (b.toNat : Int) + d ∧ (b.toNat : Int) + d ≤ 255 ∧
    triggerOf b = none ∧ InFromReset b [0xF5#8, x] ∧
    ∀ s : State, ∃ t : State, exec i s = .next t ∧ Handles b [0xF5#8, x] s t := by
  subst hsum
  have hlookup : shiftTab.lookup b = some d := lookup_of_mem_shiftTab (b, d) hentry
  have hclass := classify_of_lookup hlookup
  have hemission := emission_of_lookup hlookup
  obtain ⟨hlow, hhigh⟩ := shiftTab_sums_in_range (b, d) hentry
  exact ⟨decodeByte_of_opcode hbyte, hclass, hlookup, hemission, rfl, hlow, hhigh,
    triggerOf_eq_none (by simp [hclass]) (by simp [hclass]), row_of_emission hbyte hemission⟩

/-- Settles O10: the eleven rows are entries of the table. -/
theorem shiftTableBytesShiftByTheirEntryFirstHalf : Obligations.ShiftTableBytesShiftByTheirEntryFirstHalf := by
  unfold Obligations.ShiftTableBytesShiftByTheirEntryFirstHalf
  intro i b d x hrow
  obtain ⟨hbyte, hentry, hsum⟩ : opcode i = b ∧ (b, d) ∈ shiftTab ∧ add8 b d = x :=
    (by decide : ∀ e ∈ _, opcode e.1 = e.2.1 ∧ (e.2.1, e.2.2.1) ∈ shiftTab ∧ add8 e.2.1 e.2.2.1 = e.2.2.2) _ hrow
  exact shiftTab_row hbyte hentry hsum

/-- Settles O11: the ten rows are entries of the table. -/
theorem shiftTableBytesShiftByTheirEntrySecondHalf : Obligations.ShiftTableBytesShiftByTheirEntrySecondHalf := by
  unfold Obligations.ShiftTableBytesShiftByTheirEntrySecondHalf
  intro i b d x hrow
  obtain ⟨hbyte, hentry, hsum⟩ : opcode i = b ∧ (b, d) ∈ shiftTab ∧ add8 b d = x :=
    (by decide : ∀ e ∈ _, opcode e.1 = e.2.1 ∧ (e.2.1, e.2.2.1) ∈ shiftTab ∧ add8 e.2.1 e.2.2.1 = e.2.2.2) _ hrow
  exact shiftTab_row hbyte hentry hsum

/-- Settles O12: the 23 rows are in class 4, with the sums as listed. -/
theorem controlRangeBytesShiftBySixty : Obligations.ControlRangeBytesShiftBySixty := by
  unfold Obligations.ControlRangeBytesShiftBySixty
  intro i b x hrow
  obtain ⟨hbyte, hclass, rfl⟩ : opcode i = b ∧ classify b = .ctrlRange ∧ add8 b 0x60 = x :=
    (by decide : ∀ e ∈ _, opcode e.1 = e.2.1 ∧ classify e.2.1 = .ctrlRange ∧ add8 e.2.1 0x60 = e.2.2) _ hrow
  have hemission := emission_eq_add8_of_ctrlRange hclass
  obtain ⟨hlow, hhigh⟩ := add8_ctrlRange_bounds hclass
  obtain ⟨hreset, hexec⟩ := row_of_emission hbyte hemission
  exact ⟨decodeByte_of_opcode hbyte, hclass, hemission, rfl, hreset, hlow, hhigh, hexec⟩

/-- Settles O13: the 26 rows are in class 5, with the sums as listed. -/
theorem shiftedLettersShiftByTwenty : Obligations.ShiftedLettersShiftByTwenty := by
  unfold Obligations.ShiftedLettersShiftByTwenty
  intro i b x hrow
  obtain ⟨hbyte, hclass, rfl⟩ : opcode i = b ∧ classify b = .shiftAlpha ∧ add8 b 0x20 = x :=
    (by decide : ∀ e ∈ _, opcode e.1 = e.2.1 ∧ classify e.2.1 = .shiftAlpha ∧ add8 e.2.1 0x20 = e.2.2) _ hrow
  have hemission := emission_eq_add8_of_shiftAlpha hclass
  obtain ⟨hlow, hhigh⟩ := add8_shiftAlpha_bounds hclass
  obtain ⟨hreset, hexec⟩ := row_of_emission hbyte hemission
  exact ⟨decodeByte_of_opcode hbyte, hclass, hemission, rfl, hreset, hlow, hhigh, hexec⟩

/-- The class a row is named for is the class of its byte. -/
theorem cls_eq_classify_opcode (i : Instr) : i.cls = classify (opcode i) := by
  cases i <;> rfl

theorem cls_decodeByte (b : Byte) : (decodeByte b).cls = classify b := by
  rw [cls_eq_classify_opcode, opcode_decodeByte]

/-- Settles O14: the listed intervals are class 6, whose emission is the byte. -/
theorem defaultBytesAreStoredAsTheyAre : Obligations.DefaultBytesAreStoredAsTheyAre := by
  unfold Obligations.DefaultBytesAreStoredAsTheyAre
  intro b hlisted
  have hclass : classify b = .pass := (classify_eq_pass_iff b).mpr ((pass_intervals b).mpr hlisted)
  have hemission : emission b = [b] := emission_of_plain (.inr hclass)
  exact ⟨(cls_decodeByte b).trans hclass, hclass, hemission, row_of_emission (opcode_decodeByte b) hemission⟩

end Sys2Proof.Machine
end

section
/-! PROOFS. The OutputBuffer: appends at the capacity boundary, the overflow counter, the reads of the consumer, and the
order of the bytes delivered (42_output_buffer.md R160 to R170). -/

namespace Sys2Proof.Machine

/-! ### Appends and the control step, field by field -/

@[simp] theorem appendAll_rxQ (ys : List Byte) (s : State) : (appendAll ys s).rxQ = s.rxQ := by
  obtain ⟨⟨-, h, -⟩, -⟩ := appendAll_keeps ys s
  exact h

@[simp] theorem appendAll_returned (ys : List Byte) (s : State) : (appendAll ys s).returned = s.returned := by
  obtain ⟨⟨-, -, -, -, h, -⟩, -⟩ := appendAll_keeps ys s
  exact h

@[simp] theorem controlStep_len (b : Byte) (s : State) : (controlStep b s).len = s.len := by
  obtain ⟨-, -, h, -⟩ := controlStep_keeps b s
  exact h

@[simp] theorem controlStep_returned (b : Byte) (s : State) : (controlStep b s).returned = s.returned := by
  obtain ⟨⟨-, -, -, -, h, -⟩, -⟩ := controlStep_keeps b s
  exact h

@[simp] theorem txDone_getD_cfg (s : State) : ((txDone s).getD s).cfg = s.cfg := by
  unfold txDone; split <;> rfl

@[simp] theorem txDone_getD_len (s : State) : ((txDone s).getD s).len = s.len := by
  unfold txDone; split <;> rfl

@[simp] theorem txDone_getD_ovfCnt (s : State) : ((txDone s).getD s).ovfCnt = s.ovfCnt := by
  unfold txDone; split <;> rfl

@[simp] theorem txDone_getD_returned (s : State) : ((txDone s).getD s).returned = s.returned := by
  unfold txDone; split <;> rfl

/-! ### The invariant of the block's state (R166; 10_state.md R20, R24, R26, R30) -/

/-- The invariant speaks of the parameters, the buffer, the counter, the flags and their record, and of the queue only
that it is not too long. -/
theorem BlockInv.of_eq {s t : State} (h : BlockInv s) (hcfg : t.cfg = s.cfg) (hbuf : t.buf = s.buf)
    (hlen : t.len = s.len) (hrxQ : t.rxQ.length ≤ s.rxQ.length) (hovf : t.ovfCnt = s.ovfCnt)
    (hrx : t.rxOverrun = s.rxOverrun) (htx : t.txOverrun = s.txOverrun) (hlog : t.faultLog = s.faultLog) :
    BlockInv t := by
  obtain ⟨hparams, hkeys, hcap, hdepth, hmax, hrxRecord, htxRecord⟩ := h
  refine ⟨?_, ?_, ?_, ?_, ?_, ?_, ?_⟩
  · rwa [hcfg]
  · rwa [hbuf, hlen]
  · rwa [hcfg, hlen]
  · rw [hcfg]
    exact hrxQ.trans hdepth
  · rwa [hcfg, hovf]
  · rwa [faultCount, hlog, hrx]
  · rwa [faultCount, hlog, htx]

theorem BlockInv.after_advance {s : State} (h : BlockInv s) : BlockInv (advance s) :=
  h.of_eq (by simp) (by simp) (by simp) (by simp) (by simp) (by simp) (by simp) (by simp)

theorem BlockInv.after_txDone {s : State} (h : BlockInv s) : BlockInv ((txDone s).getD s) :=
  h.of_eq (by simp) (by simp) (by simp) (by simp) (by simp) (by simp) (by simp) (by simp)

/-- A fault sets its flag and is recorded, and leaves the other flag with its records (60_exceptions.md R232). -/
theorem BlockInv.after_raiseFault {s : State} (h : BlockInv s) (code : FaultCode) (b : Byte) :
    BlockInv (raiseFault code b s) := by
  obtain ⟨hparams, hkeys, hcap, hdepth, hmax, hrxRecord, htxRecord⟩ := h
  cases code with
  | rxOverrun => exact ⟨hparams, hkeys, hcap, hdepth, hmax, by simp [faultCount], by simpa [faultCount] using htxRecord⟩
  | txOverrun => exact ⟨hparams, hkeys, hcap, hdepth, hmax, by simpa [faultCount] using hrxRecord, by simp [faultCount]⟩

/-- `RX` puts a byte in the queue only where there is room (40_link_receiver.md R92). -/
theorem BlockInv.after_rx {s : State} (h : BlockInv s) (b : Byte) : BlockInv (rx b s) := by
  by_cases hroom : s.rxQ.length < s.cfg.rxDepth
  · obtain ⟨hparams, hkeys, hcap, -, hmax, hrecords⟩ := h
    rw [rx_of_room hroom]
    exact ⟨hparams, hkeys, hcap, by simpa using hroom, hmax, hrecords⟩
  · rw [rx_of_no_room hroom]
    exact h.after_raiseFault _ _

theorem append_ovfCnt_le_ovfMax (v : Byte) {s : State} (h : s.ovfCnt ≤ ovfMax s.cfg) :
    (append v s).ovfCnt ≤ ovfMax s.cfg := by
  rw [append_ovfCnt, countDrop_ovfCnt]
  split_ifs
  · exact h
  · exact h
  · exact Nat.min_le_right _ _

theorem appendAll_ovfCnt_le_ovfMax (ys : List Byte) {s : State} (h : s.ovfCnt ≤ ovfMax s.cfg) :
    (appendAll ys s).ovfCnt ≤ ovfMax s.cfg := by
  induction ys generalizing s with
  | nil => exact h
  | cons v vs ih =>
    have hone := append_ovfCnt_le_ovfMax v h
    rw [← append_cfg v s] at hone ⊢
    exact ih hone

theorem BlockInv.after_appendAll {s : State} (h : BlockInv s) (ys : List Byte) : BlockInv (appendAll ys s) := by
  obtain ⟨hparams, hkeys, hcap, hdepth, hmax, hrxRecord, htxRecord⟩ := h
  obtain ⟨-, -, hbound⟩ := (appendAll_appended ys s).len_bounds
  refine ⟨?_, appendAll_keys ys s hkeys, ?_, ?_, ?_, ?_, ?_⟩
  · rwa [appendAll_cfg]
  · rw [appendAll_cfg]
    exact hbound hcap
  · rwa [appendAll_cfg, appendAll_rxQ]
  · rw [appendAll_cfg]
    exact appendAll_ovfCnt_le_ovfMax ys hmax
  · rwa [faultCount, appendAll_faultLog, appendAll_rxOverrun]
  · rwa [faultCount, appendAll_faultLog, appendAll_txOverrun]

theorem BlockInv.after_tx {s : State} (h : BlockInv s) (v : Byte) : BlockInv (tx v s) := by
  unfold tx
  split
  · exact h
  · exact h.after_raiseFault _ _

theorem BlockInv.after_controlStep {s : State} (h : BlockInv s) (b : Byte) : BlockInv (controlStep b s) := by
  unfold controlStep
  split
  · exact h.after_tx _
  · exact h

/-- An emptied buffer has no slot that holds a byte (R163; 70_reset_and_hazards.md R260). -/
theorem BlockInv.after_emptying {s : State} (h : BlockInv s) (rs : List Returned) :
    BlockInv { s with buf := [], len := 0, returned := rs } := by
  obtain ⟨hparams, -, -, hrest⟩ := h
  exact ⟨hparams, rfl, Nat.zero_le _, hrest⟩

theorem BlockInv.after_resetBlock {s : State} (h : BlockInv s) : BlockInv (resetBlock s) := by
  obtain ⟨hparams, -⟩ := h
  exact ⟨hparams, rfl, Nat.zero_le _, Nat.zero_le _, Nat.zero_le _, rfl, rfl⟩

theorem perform_keeps_blockInv {op : Op} {s t : State} (hop : perform op s = .next t) (h : BlockInv s) :
    BlockInv t := by
  rcases perform_cases hop with ⟨b, -, rfl⟩ | ⟨-, -, rfl⟩ | ⟨b, q, -, hq, hrow⟩ | ⟨xs, -, -, rfl⟩ | ⟨xs, -, -, rfl⟩ |
    ⟨-, rfl⟩ | ⟨-, rfl⟩
  · exact h.after_rx b
  · exact h
  · obtain rfl := exec_decodeByte_next hrow
    have hdequeued : BlockInv { s with rxQ := q } := h.of_eq rfl rfl rfl (by simp [hq]) rfl rfl rfl rfl
    exact (hdequeued.after_appendAll (emission b)).after_controlStep b
  · exact h.after_emptying _
  · exact h
  · exact h.after_txDone
  · exact h.after_resetBlock

/-- Settles O39: the choice of the operation and every operation keep the invariant. -/
theorem invariantKeptByEveryStep : Obligations.InvariantKeptByEveryStep := by
  unfold Obligations.InvariantKeptByEveryStep
  intro s t h hstep
  exact perform_keeps_blockInv hstep h.after_advance

/-! ### The bytes delivered, in order (R161, R167; 20_memory.md R60) -/

theorem stored_congr {s t : State} (hlen : t.len = s.len) (hslot : ∀ j, t.slot j = s.slot j) : stored t = stored s := by
  rw [stored, stored, hlen, funext hslot]

theorem stored_of_buf_eq {s t : State} (hlen : t.len = s.len) (hbuf : t.buf = s.buf) : stored t = stored s :=
  stored_congr hlen fun j => by rw [State.slot, State.slot, hbuf]

/-- Only the buffer and the returned lists matter. -/
theorem delivered_of_eq {s t : State} (hlen : t.len = s.len) (hbuf : t.buf = s.buf)
    (hreturned : t.returned = s.returned) : delivered t = delivered s := by
  rw [delivered, delivered, hreturned, stored_of_buf_eq hlen hbuf]

@[simp] theorem delivered_advance (s : State) : delivered (advance s) = delivered s :=
  delivered_of_eq (advance_len s) (advance_buf s) (advance_returned s)

@[simp] theorem delivered_controlStep (b : Byte) (s : State) : delivered (controlStep b s) = delivered s :=
  delivered_of_eq (controlStep_len b s) (controlStep_buf b s) (controlStep_returned b s)

@[simp] theorem delivered_rx (b : Byte) (s : State) : delivered (rx b s) = delivered s :=
  delivered_of_eq (rx_len b s) (rx_buf b s) (rx_returned b s)

@[simp] theorem delivered_txDone_getD (s : State) : delivered ((txDone s).getD s) = delivered s :=
  delivered_of_eq (txDone_getD_len s) (txDone_getD_buf s) (txDone_getD_returned s)

theorem delivered_of_rxQ (s : State) (q : List Byte) : delivered { s with rxQ := q } = delivered s := rfl

/-- Appends put behind the bytes delivered as many as fit. -/
theorem delivered_appendAll (ys : List Byte) (s : State) :
    delivered (appendAll ys s) = delivered s ++ ys.take (s.cfg.cap - s.len) := by
  rw [delivered, appendAll_returned, stored_appendAll, ← List.append_assoc, delivered]

/-- `TAKE` moves the stored bytes behind those returned before. -/
theorem delivered_take (s : State) :
    delivered { s with buf := [], len := 0, returned := s.returned ++ [.take (stored s)] } = delivered s := by
  simp [delivered, stored, takenLists_append, takenLists]

/-- `PEEK` takes nothing out of the buffer. -/
theorem delivered_peek (s : State) (xs : List Byte) :
    delivered { s with returned := s.returned ++ [.peek xs] } = delivered s := by
  have htaken : takenLists (s.returned ++ [.peek xs]) = takenLists s.returned := by
    simp [takenLists_append, takenLists]
  rw [delivered, htaken]
  rfl

/-- Settles O49: an emission goes behind the bytes delivered, a `TAKE` moves bytes from the buffer to the lists,
and the other operations but `RESET` touch neither. -/
theorem deliveredStreamGrowsInOrder : Obligations.DeliveredStreamGrowsInOrder := by
  unfold Obligations.DeliveredStreamGrowsInOrder
  intro s t h hstep
  rcases perform_cases hstep with ⟨b, hop, rfl⟩ | ⟨hop, hq, rfl⟩ | ⟨b, q, hop, hq, hrow⟩ | ⟨xs, hop, hread, rfl⟩ |
    ⟨xs, hop, -, rfl⟩ | ⟨hop, rfl⟩ | ⟨hop, rfl⟩ <;> rw [hop]
  · simp only [delivered_rx, delivered_advance]
  · rw [advance_rxQ] at hq
    simp [hq]
  · rw [advance_rxQ] at hq
    obtain rfl := exec_decodeByte_next hrow
    rw [delivered_controlStep, delivered_appendAll, delivered_of_rxQ, delivered_advance]
    simp [hq]
  · obtain rfl : xs = stored (advance s) := by
      rw [readAll_of_inv h.after_advance] at hread
      exact (Except.ok.inj hread).symm
    exact (delivered_take _).trans (delivered_advance s)
  · exact (delivered_peek _ xs).trans (delivered_advance s)
  · simp only [delivered_txDone_getD, delivered_advance]
  · rfl

/-! ### One append (R160) and the overflow counter (R168) -/

theorem append_of_room {s : State} (h : s.len < s.cfg.cap) (v : Byte) :
    append v s = { s with buf := Memory.store s.buf s.len v, len := s.len + 1 } := by
  rw [append, if_pos h, memWrite]

theorem append_of_no_room {s : State} (h : s.cfg.cap ≤ s.len) (v : Byte) : append v s = countDrop s := by
  rw [append, if_neg (Nat.not_lt.mpr h)]

theorem countDrop_of_width_zero {s : State} (h : s.cfg.ovfCntW = 0) : countDrop s = s := by
  rw [countDrop, if_pos h]

theorem countDrop_of_width_pos {s : State} (h : 0 < s.cfg.ovfCntW) :
    countDrop s = { s with ovfCnt := min (s.ovfCnt + 1) (2 ^ s.cfg.ovfCntW - 1) } := by
  rw [countDrop, if_neg h.ne', ovfMax]

theorem append_keeps (v : Byte) (s : State) : HandlerKeeps s (append v s) ∧ LinkKept s (append v s) :=
  appendAll_keeps [v] s

/-- Settles O24: with room the byte stands at the old length, without room the slots stay; the frame is that of every
append. -/
theorem appendStoresOrDrops : Obligations.AppendStoresOrDrops := by
  unfold Obligations.AppendStoresOrDrops
  intro v s
  obtain ⟨hkeeps, hlink⟩ := append_keeps v s
  refine ⟨fun hroom => ⟨?_, ?_, fun j hj => ?_, ?_⟩, fun hfull => ⟨?_, fun j => ?_, fun hwidth => ?_⟩, hlink, hkeeps⟩
  · rw [append_len, if_pos hroom]
  · rw [append_slot, if_pos ⟨hroom, rfl⟩]
  · rw [append_slot, if_neg fun hnew => hj hnew.2]
  · rw [append_ovfCnt, if_pos hroom]
  · rw [append_len, if_neg hfull]
  · rw [append_slot, if_neg fun hnew => hfull hnew.1]
  · rw [append_of_no_room (Nat.not_lt.mp hfull), countDrop_of_width_zero hwidth]

theorem perform_keeps_ovfCnt {op : Op} {s t : State} (hop : perform op s = .next t) (htranslate : op ≠ .translate)
    (hreset : op ≠ .reset) : t.ovfCnt = s.ovfCnt := by
  rcases perform_cases hop with ⟨b, -, rfl⟩ | ⟨h, -⟩ | ⟨b, q, h, -⟩ | ⟨xs, -, -, rfl⟩ | ⟨xs, -, -, rfl⟩ | ⟨-, rfl⟩ |
    ⟨h, -⟩
  · exact rx_ovfCnt b s
  · exact absurd h htranslate
  · exact absurd h htranslate
  · rfl
  · rfl
  · exact txDone_getD_ovfCnt s
  · exact absurd h hreset

/-- A counter in range goes up by the number of dropped bytes, as far as it goes. -/
theorem Appended.ovfCnt_eq {ys : List Byte} {s t : State} (h : Appended ys s t) (hwidth : 0 < s.cfg.ovfCntW)
    (hrange : s.ovfCnt ≤ 2 ^ s.cfg.ovfCntW - 1) :
    t.ovfCnt = min (s.ovfCnt + (ys.length - min ys.length (s.cfg.cap - s.len))) (2 ^ s.cfg.ovfCntW - 1) := by
  obtain ⟨-, -, hovf⟩ := h
  rw [hovf]
  split_ifs <;> omega

theorem Appended.ovfCnt_ge {ys : List Byte} {s t : State} (h : Appended ys s t)
    (hrange : s.ovfCnt ≤ 2 ^ s.cfg.ovfCntW - 1) : s.ovfCnt ≤ t.ovfCnt := by
  obtain ⟨-, -, hovf⟩ := h
  rw [hovf]
  split_ifs
  · exact le_refl _
  · exact le_min (Nat.le_add_right _ _) hrange

theorem perform_translate_ovfCnt_ge {s t : State} (hrange : s.ovfCnt ≤ 2 ^ s.cfg.ovfCntW - 1)
    (h : perform .translate s = .next t) : s.ovfCnt ≤ t.ovfCnt := by
  cases hq : s.rxQ with
  | nil =>
    obtain rfl : s = t := by simpa [perform_translate_of_rxQ_nil hq] using h
    exact le_refl _
  | cons b q =>
    obtain ⟨u, hu, happended, -⟩ := perform_translate_appended hq
    obtain rfl : u = t := by simpa [hu] using h
    exact happended.ovfCnt_ge hrange

/-- Settles O25: a dropped append is the counting alone, a stored one does not count, and of the operations only
`TRANSLATE` appends and only `RESET` clears. -/
theorem dropsCountAndSaturate : Obligations.DropsCountAndSaturate := by
  unfold Obligations.DropsCountAndSaturate
  refine ⟨fun v s hfull hwidth => ?_, fun v s hfull hwidth => ?_, fun v s hroom => append_of_room hroom v,
    fun op s t htranslate hreset hop => perform_keeps_ovfCnt hop htranslate hreset,
    fun s t hrange h => perform_translate_ovfCnt_ge hrange h, fun s => ⟨resetBlock s, rfl, resetBlock_ovfCnt s⟩⟩
  · rw [append_of_no_room hfull, countDrop_of_width_pos hwidth]
  · rw [append_of_no_room hfull, countDrop_of_width_zero hwidth]

/-! ### An emission at the capacity boundary (R169, R170) -/

/-- The stored bytes are told by the slots, which `Appended` gives as a list of appends does. -/
theorem Appended.stored_eq {ys : List Byte} {s t : State} (h : Appended ys s t) :
    stored t = stored s ++ ys.take (s.cfg.cap - s.len) := by
  obtain ⟨hlen, hslot, -⟩ := h
  have hsame : t.len = (appendAll ys s).len := hlen.trans (appendAll_len ys s).symm
  rw [← stored_appendAll]
  exact stored_congr hsame fun j => by rw [hslot, appendAll_slot, hsame]

/-- With `k` the number of bytes that fit, the first `k` stand from the old length on, and no other slot changes. -/
theorem Appended.stores_first {ys : List Byte} {s t : State} (h : Appended ys s t) {k : Nat}
    (hk : min ys.length (s.cfg.cap - s.len) = k) :
    t.len = s.len + k ∧ (∀ i, i < k → t.slot (s.len + i) = ys[i]?) ∧
      ∀ j, ¬ (s.len ≤ j ∧ j < s.len + k) → t.slot j = s.slot j := by
  obtain ⟨hlen, hslot, -⟩ := h
  rw [hk] at hlen
  refine ⟨hlen, fun i hi => ?_, fun j hj => ?_⟩
  · rw [hslot, if_pos (by omega), Nat.add_sub_cancel_left]
  · rw [hslot, if_neg (by omega)]

/-- Settles O26: what the appends of the emission do, from the state in which the byte is still queued. -/
theorem translateStoresWhatFits : Obligations.TranslateStoresWhatFits := by
  unfold Obligations.TranslateStoresWhatFits
  intro s b q hq
  obtain ⟨t, hperform, happended, hrxQ⟩ := perform_translate_appended hq
  obtain ⟨hlen, -, -⟩ := happended.stores_first rfl
  exact ⟨t, hperform, hrxQ, hlen, happended.stored_eq, happended.ovfCnt_eq⟩

/-- Settles O27: of two bytes the first or both are stored, by the number of free slots; of one byte, that one. -/
theorem partialEmissionKeepsTheMarker : Obligations.PartialEmissionKeepsTheMarker := by
  unfold Obligations.PartialEmissionKeepsTheMarker
  intro s b q hq
  obtain ⟨t, hperform, happended, -⟩ := perform_translate_appended hq
  refine ⟨t, hperform, fun m x hemission hone => ?_, happended.keeps_of_cap_le, fun m x hemission htwo => ?_,
    fun x hemission hroom => ?_⟩
  all_goals rw [hemission] at happended
  · obtain ⟨hlen, hnew, hold⟩ := happended.stores_first (k := 1) (by simp; omega)
    exact ⟨by omega, hnew 0 (by decide), fun j hj => hold j (by omega)⟩
  · obtain ⟨hlen, hnew, hold⟩ := happended.stores_first (k := 2) (by simp; omega)
    exact ⟨hlen, hnew 0 (by decide), hnew 1 (by decide), fun j hj hj' => hold j (by omega)⟩
  · obtain ⟨hlen, hnew, hold⟩ := happended.stores_first (k := 1) (by simp; omega)
    exact ⟨hlen, hnew 0 (by decide), fun j hj => hold j (by omega)⟩

/-! ### What the consumer reads (R163, R164; 20_memory.md R55, R56) -/

/-- Where every slot below `len` holds a byte, the stored bytes are those slots one by one. -/
theorem stored_getElem? {s : State} (h : ∀ j, j < s.len → (s.slot j).isSome = true) {j : Nat} (hj : j < s.len) :
    (stored s)[j]? = s.slot j := by
  have hmap : stored s = (List.range s.len).map fun i => (s.slot i).getD 0#8 := by
    rw [stored, ← List.filterMap_eq_map]
    refine List.filterMap_congr fun i hi => ?_
    obtain ⟨v, hv⟩ := Option.isSome_iff_exists.mp (h i (List.mem_range.mp hi))
    simp [hv]
  obtain ⟨v, hv⟩ := Option.isSome_iff_exists.mp (h j hj)
  simp [hmap, List.getElem?_range hj, hv]

/-- Settles O33: the read gives the stored bytes, which are the slots in order, and the buffer is emptied. -/
theorem takeReturnsAllAndEmpties : Obligations.TakeReturnsAllAndEmpties := by
  unfold Obligations.TakeReturnsAllAndEmpties
  intro s h
  exact ⟨stored s, _, perform_take_of_readAll_ok (readAll_ok h), rfl, stored_length h, fun _ => stored_getElem? h,
    rfl, fun _ => rfl, rfl, rfl, rfl, rfl, rfl, ⟨rfl, rfl, rfl, rfl⟩, rfl, rfl⟩

/-- Settles O34: the read gives the stored bytes, which are the slots in order, and only that list is recorded. -/
theorem peekReturnsAllAndKeeps : Obligations.PeekReturnsAllAndKeeps := by
  unfold Obligations.PeekReturnsAllAndKeeps
  intro s h
  exact ⟨stored s, perform_peek_of_readAll_ok (readAll_ok h), stored_length h, fun _ => stored_getElem? h⟩

end Sys2Proof.Machine
end

section
/-! PROOFS. The control responses: what the three trigger bytes do and no other byte does, that every response is
accounted for, and that responses and appends do not look at each other (43_control_signals.md R190 to R196). -/

namespace Sys2Proof.Machine

/-! ### The control step by the trigger (R190) -/

theorem controlStep_of_triggerOf_none {b : Byte} (h : triggerOf b = none) (s : State) : controlStep b s = s := by
  simp [controlStep, h]

theorem controlStep_of_triggerOf_some {b : Byte} {k : TriggerKind} (h : triggerOf b = some k) (s : State) :
    controlStep b s = notify k (tx (responseByte k) s) := by
  simp [controlStep, h]

@[simp] theorem controlStep_ovfCnt (b : Byte) (s : State) : (controlStep b s).ovfCnt = s.ovfCnt := by
  obtain ⟨-, -, -, h⟩ := controlStep_keeps b s
  exact h

/-- The three cases of the control step are one, told by the kind of the response. -/
theorem ControlEffect.responds {b : Byte} {k : TriggerKind} {s t : State} (h : ControlEffect b s t)
    (hk : triggerOf b = some k) : Responds k (responseByte k) s t := by
  obtain ⟨hC3, hB2, h0A, -⟩ := h
  unfold triggerOf at hk
  split_ifs at hk with hbC3 hbB2 hb0A <;> cases hk
  · exact hC3 hbC3
  · exact hB2 hbB2
  · exact h0A hb0A

/-! ### Every response is accounted for (R190, R195; 40_link_receiver.md R96 to R98) -/

theorem faultCount_of_faultLog_eq {s t : State} (h : t.faultLog = s.faultLog) (code : FaultCode) :
    faultCount code t = faultCount code s := by
  rw [faultCount, h, faultCount]

/-- The fault of `RX` is the other one (60_exceptions.md R232). -/
theorem faultCount_txOverrun_rx (b : Byte) (s : State) : faultCount .txOverrun (rx b s) = faultCount .txOverrun s := by
  rw [faultCount, rx_faultLog, faultCount]
  split <;> simp

theorem faultCount_txOverrun_tx (v : Byte) (s : State) :
    faultCount .txOverrun (tx v s) = faultCount .txOverrun s + if s.txHold.isSome then 1 else 0 := by
  rw [faultCount, tx_faultLog, faultCount]
  split <;> simp

/-- The byte given to `TX` goes out or is a `TX_OVERRUN`, never both and never neither (40_link_receiver.md R96). -/
theorem outbound_length_add_faultCount_tx (v : Byte) (s : State) :
    (outbound (tx v s)).length + faultCount .txOverrun (tx v s) =
      (outbound s).length + faultCount .txOverrun s + 1 := by
  rw [outbound_tx, faultCount_txOverrun_tx, List.length_append]
  split <;> simp <;> omega

/-- Only the outbound bytes, the notifications and the recorded `TX_OVERRUN`s matter. -/
theorem ResponsesAccounted.of_eq {s t : State} (h : ResponsesAccounted s) (hout : outbound t = outbound s)
    (hlog : t.notifyLog = s.notifyLog) (hfaults : faultCount .txOverrun t = faultCount .txOverrun s) :
    ResponsesAccounted t := by
  rwa [ResponsesAccounted, hout, hlog, hfaults]

/-- A response adds one notification, and its byte adds one on the other side. -/
theorem ResponsesAccounted.after_response {s : State} (h : ResponsesAccounted s) (k : TriggerKind) :
    ResponsesAccounted (notify k (tx (responseByte k) s)) := by
  have hfaults : faultCount .txOverrun (notify k (tx (responseByte k) s)) =
      faultCount .txOverrun (tx (responseByte k) s) := faultCount_of_faultLog_eq (notify_faultLog _ _) _
  rw [ResponsesAccounted, outbound_notify, hfaults, outbound_length_add_faultCount_tx, notify_notifyLog, tx_notifyLog,
    List.length_append, h, List.length_singleton]

theorem ResponsesAccounted.after_controlStep {s : State} (h : ResponsesAccounted s) (b : Byte) :
    ResponsesAccounted (controlStep b s) := by
  cases hk : triggerOf b with
  | none => rwa [controlStep_of_triggerOf_none hk]
  | some k =>
    rw [controlStep_of_triggerOf_some hk]
    exact h.after_response k

/-- `TXDONE` moves a byte that is counted already, `RESET` clears all that is counted, and only the control step of a
`TRANSLATE` adds to it. -/
theorem perform_keeps_responsesAccounted {op : Op} {s t : State} (hop : perform op s = .next t)
    (h : ResponsesAccounted s) : ResponsesAccounted t := by
  rcases perform_cases hop with ⟨b, -, rfl⟩ | ⟨-, -, rfl⟩ | ⟨b, q, -, -, hrow⟩ | ⟨xs, -, -, rfl⟩ | ⟨xs, -, -, rfl⟩ |
    ⟨-, rfl⟩ | ⟨-, rfl⟩
  · exact h.of_eq (outbound_rx b s) (rx_notifyLog b s) (faultCount_txOverrun_rx b s)
  · exact h
  · obtain rfl := exec_decodeByte_next hrow
    have happended : ResponsesAccounted (appendAll (emission b) { s with rxQ := q }) :=
      h.of_eq (outbound_appendAll _ _) (appendAll_notifyLog _ _) (faultCount_of_faultLog_eq (appendAll_faultLog _ _) _)
    exact happended.after_controlStep b
  · exact h
  · exact h
  · exact h.of_eq (outbound_txDone_getD s) (txDone_getD_notifyLog s)
      (faultCount_of_faultLog_eq (txDone_getD_faultLog s) _)
  · rfl

/-- Settles O43: the choice of the operation leaves the link alone, and every operation keeps the accounting. -/
theorem responsesStayAccounted : Obligations.ResponsesStayAccounted := by
  unfold Obligations.ResponsesStayAccounted
  intro s t h hstep
  exact perform_keeps_responsesAccounted hstep
    (h.of_eq (outbound_advance s) (advance_notifyLog s) (faultCount_of_faultLog_eq (advance_faultLog s) _))

/-! ### The rows of the three trigger bytes (R191 to R193) -/

/-- The row of a trigger byte appends its emission like every row, and responds as its kind says. -/
theorem trigger_row {i : Instr} {b : Byte} {ys : List Byte} {k : TriggerKind} (hbyte : opcode i = b)
    (hemission : emission b = ys) (hk : triggerOf b = some k) :
    decodeByte b = i ∧ InFromReset b ys ∧
    ∀ s : State, ∃ t : State, exec i s = .next t ∧ Appended ys s t ∧ HandlerKeeps s t ∧
      t.notifyLog = s.notifyLog ++ [k] ∧
      (s.txHold = none → t.txHold = some (responseByte k) ∧ t.txOverrun = s.txOverrun) ∧
      (∀ w : Byte, s.txHold = some w → t.txHold = some w ∧ t.txOverrun = true) := by
  obtain ⟨hreset, hexec⟩ := row_of_emission hbyte hemission
  refine ⟨decodeByte_of_opcode hbyte, hreset, fun s => ?_⟩
  obtain ⟨t, ht, happended, hcontrol, hkeeps⟩ := hexec s
  obtain ⟨hlog, hidle, hpending⟩ := hcontrol.responds hk
  refine ⟨t, ht, happended, hkeeps, hlog, fun hnone => ?_, hpending⟩
  obtain ⟨hhold, hoverrun, -⟩ := hidle hnone
  exact ⟨hhold, hoverrun⟩

/-- Settles O17: `0xC3` is a trigger byte of class 6. -/
theorem byteC3EnablesClick : Obligations.ByteC3EnablesClick := by
  unfold Obligations.ByteC3EnablesClick
  have hclass : classify 0xC3#8 = .pass := rfl
  obtain ⟨hdecode, hreset, hexec⟩ :=
    trigger_row (i := .rxC3Pass) (k := .clickOn) rfl (emission_of_plain (.inr hclass)) rfl
  exact ⟨hdecode, hclass, hreset, hexec⟩

/-- Settles O18: `0xB2` is a trigger byte of class 6. -/
theorem byteB2DisablesClick : Obligations.ByteB2DisablesClick := by
  unfold Obligations.ByteB2DisablesClick
  have hclass : classify 0xB2#8 = .pass := rfl
  obtain ⟨hdecode, hreset, hexec⟩ :=
    trigger_row (i := .rxB2Pass) (k := .clickOff) rfl (emission_of_plain (.inr hclass)) rfl
  exact ⟨hdecode, hclass, hreset, hexec⟩

/-- Settles O19: `0x0A` is a trigger byte of class 4, not of class 2 (90_conflicts.md C1). -/
theorem byte0AAcknowledges : Obligations.Byte0AAcknowledges := by
  unfold Obligations.Byte0AAcknowledges
  have hclass : classify 0x0A#8 = .ctrlRange := rfl
  obtain ⟨hdecode, hreset, hexec⟩ :=
    trigger_row (i := .rx0ACtrlRange) (k := .ack) rfl (emission_of_ctrlRange hclass) rfl
  exact ⟨hdecode, hclass, hreset, hexec⟩

/-! ### No other response, and at most one (R194, R195) -/

/-- Settles O20: the last case of the control step keeps the link, and the wire is in the frame of every row. -/
theorem onlyTheThreeTriggersRespond : Obligations.OnlyTheThreeTriggersRespond := by
  unfold Obligations.OnlyTheThreeTriggersRespond
  intro i hC3 hB2 h0A s
  obtain ⟨t, hexec, -, ⟨-, -, -, hlink⟩, -, -, -, hwire, -⟩ := exec_handles i s
  obtain ⟨hhold, hoverrun, -, hlog⟩ := hlink ⟨hC3, hB2, h0A⟩
  exact ⟨t, hexec, hhold, hwire, hoverrun, hlog⟩

/-- A response is notified at most once, and its byte is lost at most once. -/
theorem controlStep_logs (b : Byte) (s : State) :
    ((controlStep b s).notifyLog = s.notifyLog ∧ (controlStep b s).faultLog = s.faultLog) ∨
      ∃ k, (controlStep b s).notifyLog = s.notifyLog ++ [k] ∧
        ((controlStep b s).faultLog = s.faultLog ∨
          (controlStep b s).faultLog = s.faultLog ++ [⟨.txOverrun, responseByte k⟩]) := by
  cases hk : triggerOf b with
  | none =>
    rw [controlStep_of_triggerOf_none hk]
    exact .inl ⟨rfl, rfl⟩
  | some k =>
    rw [controlStep_of_triggerOf_some hk, notify_notifyLog, tx_notifyLog, notify_faultLog, tx_faultLog]
    exact .inr ⟨k, rfl, (ite_eq_or_eq _ _ _).symm⟩

/-- Settles O21: the appends write neither record, and the control step writes each at most once. -/
theorem atMostOneResponsePerByte : Obligations.AtMostOneResponsePerByte := by
  unfold Obligations.AtMostOneResponsePerByte
  intro i s
  have hlogs := controlStep_logs (opcode i) (appendAll (emission (opcode i)) s)
  rw [appendAll_notifyLog, appendAll_faultLog] at hlogs
  exact ⟨_, everyInstructionRunsTheClassification i s, hlogs⟩

/-! ### Responses and appends do not look at each other (R196; 41_scan_translator.md R139) -/

/-- States that agree on the link agree on it after the control step on the same byte. -/
theorem LinkKept.after_controlStep {s s' : State} (h : LinkKept s s') (b : Byte) :
    LinkKept (controlStep b s) (controlStep b s') := by
  obtain ⟨hhold, hoverrun, hfaults, hlog⟩ := h
  cases hk : triggerOf b with
  | none =>
    rw [controlStep_of_triggerOf_none hk, controlStep_of_triggerOf_none hk]
    exact ⟨hhold, hoverrun, hfaults, hlog⟩
  | some k =>
    rw [controlStep_of_triggerOf_some hk, controlStep_of_triggerOf_some hk]
    simp [LinkKept, hhold, hoverrun, hfaults, hlog]

theorem LinkKept.after_appendAll {s s' : State} (h : LinkKept s s') (ys : List Byte) :
    LinkKept (appendAll ys s) (appendAll ys s') := by
  simpa [LinkKept] using h

/-- Settles O22: the appends leave the link alone, and the control step looks at nothing else. -/
theorem responseIgnoresTheBuffer : Obligations.ResponseIgnoresTheBuffer := by
  unfold Obligations.ResponseIgnoresTheBuffer
  intro i s s' hhold hoverrun hfaults hlog
  have hagree : LinkKept s' s := ⟨hhold, hoverrun, hfaults, hlog⟩
  exact ⟨_, _, everyInstructionRunsTheClassification i s, everyInstructionRunsTheClassification i s',
    (hagree.after_appendAll _).after_controlStep _⟩

/-- Two states agree on what an append looks at: the parameters, the buffer, its length and the counter
(42_output_buffer.md R160, R168). -/
def BufferAgrees (s s' : State) : Prop :=
  s.cfg = s'.cfg ∧ s.buf = s'.buf ∧ s.len = s'.len ∧ s.ovfCnt = s'.ovfCnt

theorem BufferAgrees.after_append {s s' : State} (h : BufferAgrees s s') (v : Byte) :
    BufferAgrees (append v s) (append v s') := by
  obtain ⟨hcfg, hbuf, hlen, hovf⟩ := h
  simp [BufferAgrees, hcfg, hbuf, hlen, hovf]

theorem BufferAgrees.after_appendAll {s s' : State} (h : BufferAgrees s s') (ys : List Byte) :
    BufferAgrees (appendAll ys s) (appendAll ys s') := by
  induction ys generalizing s s' with
  | nil => exact h
  | cons v vs ih => exact ih (h.after_append v)

/-- Settles O23: an append looks only at what the states agree on, and the control step leaves the buffer alone. -/
theorem appendsIgnoreTheLink : Obligations.AppendsIgnoreTheLink := by
  unfold Obligations.AppendsIgnoreTheLink
  intro i s s' hcfg hbuf hlen hovf
  have hagree : BufferAgrees s s' := ⟨hcfg, hbuf, hlen, hovf⟩
  obtain ⟨-, hbuf', hlen', hovf'⟩ := hagree.after_appendAll (emission (opcode i))
  refine ⟨_, _, everyInstructionRunsTheClassification i s, everyInstructionRunsTheClassification i s', ?_, ?_, ?_⟩
  · rwa [controlStep_buf, controlStep_buf]
  · rwa [controlStep_len, controlStep_len]
  · rwa [controlStep_ovfCnt, controlStep_ovfCnt]

end Sys2Proof.Machine
end

section
/-! PROOFS. The marker stream: the reference reading, that it gives one item for each emission, and that every step that
loses nothing keeps the bytes delivered readable as whole items (44_marker_stream.md R211 to R216). -/

namespace Sys2Proof.Machine

/-! ### The reading of one byte, of one item, and of two sequences in a row (R211, R212) -/

theorem decodeFrom_singleton (q : Reading) (y : Byte) :
    decodeFrom q [y] = ((readByte q y).2.toList, (readByte q y).1) := by
  simp [decodeFrom]

/-- A further byte is read from the state the bytes before it leave. -/
theorem decodeFrom_concat (q : Reading) (ys : List Byte) (y : Byte) :
    decodeFrom q (ys ++ [y]) =
      ((decodeFrom q ys).1 ++ (readByte (decodeFrom q ys).2 y).2.toList, (readByte (decodeFrom q ys).2 y).1) := by
  rw [decodeFrom_append, decodeFrom_singleton]

theorem decodeStream_plain {y : Byte} (h : isMarker y = false) : decodeStream [y] = ([.plain y], .idle) := by
  rw [decodeStream, decodeFrom_singleton, readByte_plain h]
  rfl

/-- The shift marker takes any byte, a marker value too (R213). -/
theorem decodeStream_shift (x : Byte) : decodeStream [0xF5#8, x] = ([.shifted x], .idle) := rfl

theorem decodeStream_control (x : Byte) : decodeStream [0xF6#8, x] = ([.ctrl x], .idle) := rfl

/-- What follows whole items is read on its own. -/
theorem decodeStream_append_of_idle {xs : List Byte} {items : List Item} (h : decodeStream xs = (items, .idle))
    (ys : List Byte) : decodeStream (xs ++ ys) = (items ++ (decodeStream ys).1, (decodeStream ys).2) := by
  rw [decodeStream] at h
  rw [decodeStream, decodeFrom_append, h, decodeStream]

/-- Settles O50: the rows of the table are those of `readByte`, and a run is extended byte by byte. -/
theorem readingFollowsTheTable : Obligations.ReadingFollowsTheTable := by
  unfold Obligations.ReadingFollowsTheTable
  exact ⟨fun _ => rfl, fun _ => rfl, fun _ => rfl, rfl, decodeFrom_concat .idle⟩

/-! ### A received marker value (R213, R216; 41_scan_translator.md R138) -/

/-- A received marker value is not escaped. -/
theorem emission_of_isMarker {b : Byte} (h : isMarker b = true) : emission b = [b] := by
  simp only [isMarker, shiftMarker, ctrlMarker, Bool.or_eq_true, beq_iff_eq] at h
  rcases h with rfl | rfl <;> exact emission_of_plain (.inr rfl)

/-- Settles O54: the marker value is stored as it is, so the byte stored after it is read as the modified byte. -/
theorem receivedMarkerReadsAsAMarker : Obligations.ReceivedMarkerReadsAsAMarker := by
  unfold Obligations.ReceivedMarkerReadsAsAMarker
  have hplain61 : emission 0x61#8 = [0x61#8] := emission_of_plain (.inr rfl)
  have hplain6A : emission 0x6A#8 = [0x6A#8] := emission_of_plain (.inr rfl)
  rw [emission_of_isMarker (b := 0xF5#8) rfl, emission_of_isMarker (b := 0xF6#8) rfl, hplain61, hplain6A]
  exact ⟨(emission_of_shiftAlpha (b := 0x41#8) rfl).symm, decodeStream_shift _,
    (emission_of_ctrlRange (b := 0x0A#8) rfl).symm, decodeStream_shift _⟩

/-! ### The item of a received byte (R215) -/

theorem itemOf_of_plain {b : Byte} (h : classify b = .exc ∨ classify b = .pass) : itemOf b = .plain b := by
  rcases h with h | h <;> simp [itemOf, h]

theorem itemOf_of_control {b m x : Byte} (h : classify b = .ctrlLow ∨ classify b = .ctrlRange)
    (hemission : emission b = [m, x]) : itemOf b = .ctrl x := by
  rcases h with h | h <;> simp [itemOf, h, hemission]

theorem itemOf_of_shift {b m x : Byte} (h : classify b = .shiftTab ∨ classify b = .shiftAlpha)
    (hemission : emission b = [m, x]) : itemOf b = .shifted x := by
  rcases h with h | h <;> simp [itemOf, h, hemission]

theorem decodeStream_emission_of_plain {b : Byte} (hclass : classify b = .exc ∨ classify b = .pass)
    (hb : isMarker b = false) : decodeStream (emission b) = ([itemOf b], .idle) := by
  rw [itemOf_of_plain hclass, emission_of_plain hclass, decodeStream_plain hb]

theorem decodeStream_emission_of_control {b x : Byte} (hclass : classify b = .ctrlLow ∨ classify b = .ctrlRange)
    (hemission : emission b = [0xF6#8, x]) : decodeStream (emission b) = ([itemOf b], .idle) := by
  rw [itemOf_of_control hclass hemission, hemission, decodeStream_control]

theorem decodeStream_emission_of_shift {b x : Byte} (hclass : classify b = .shiftTab ∨ classify b = .shiftAlpha)
    (hemission : emission b = [0xF5#8, x]) : decodeStream (emission b) = ([itemOf b], .idle) := by
  rw [itemOf_of_shift hclass hemission, hemission, decodeStream_shift]

/-- An emission is one whole item, unless a marker value was received. -/
theorem decodeStream_emission {b : Byte} (hb : isMarker b = false) :
    decodeStream (emission b) = ([itemOf b], .idle) := by
  cases h : classify b with
  | exc => exact decodeStream_emission_of_plain (.inl h) hb
  | ctrlLow => exact decodeStream_emission_of_control (.inl h) (emission_of_ctrlLow h)
  | shiftTab =>
    obtain ⟨d, -, hemission⟩ := emission_of_shiftTab h
    exact decodeStream_emission_of_shift (.inl h) hemission
  | ctrlRange => exact decodeStream_emission_of_control (.inr h) (emission_of_ctrlRange h)
  | shiftAlpha => exact decodeStream_emission_of_shift (.inr h) (emission_of_shiftAlpha h)
  | pass => exact decodeStream_emission_of_plain (.inr h) hb

theorem decodeStream_flatMap_emission {bs : List Byte} (hbs : ∀ b ∈ bs, isMarker b = false) :
    decodeStream (bs.flatMap emission) = (bs.map itemOf, .idle) := by
  induction bs with
  | nil => rfl
  | cons b bs ih =>
    obtain ⟨hb, hrest⟩ := List.forall_mem_cons.mp hbs
    rw [List.flatMap_cons, decodeStream_append_of_idle (decodeStream_emission hb), ih hrest]
    rfl

/-- Settles O51: the reading is in `IDLE` after each emission, so the next one is read on its own. -/
theorem emissionsReadBackOneItemPerByte : Obligations.EmissionsReadBackOneItemPerByte := by
  unfold Obligations.EmissionsReadBackOneItemPerByte
  intro bs hbs
  exact decodeStream_flatMap_emission fun b hb => (isMarker_eq_false_iff b).mpr (hbs b hb)

/-! ### The lists of successive `TAKE`s (R214; 00_scope.md R8) -/

/-- With the carry, the state a list leaves is where the rest is read from, also where there is no rest. -/
theorem readLists_carry_cons (q : Reading) (ys : List Byte) (rest : List (List Byte)) :
    readLists true q (ys :: rest) =
      ((decodeFrom q ys).1 ++ (readLists true (decodeFrom q ys).2 rest).1,
        (readLists true (decodeFrom q ys).2 rest).2) := by
  cases rest <;> rfl

theorem readLists_carry (q : Reading) (ls : List (List Byte)) : readLists true q ls = decodeFrom q ls.flatten := by
  induction ls generalizing q with
  | nil => rfl
  | cons ys rest ih => rw [readLists_carry_cons, ih, List.flatten_cons, decodeFrom_append]

theorem readLists_discard_items (ls : List (List Byte)) :
    (readLists false .idle ls).1 = ls.flatMap fun ys => (decodeStream ys).1 := by
  induction ls with
  | nil => rfl
  | cons ys rest ih =>
    rw [List.flatMap_cons, ← ih]
    rfl

/-- Settles O55: the carry hands on the state a list leaves, its absence puts `IDLE` there. -/
theorem carryDecidesHowTakenListsRead : Obligations.CarryDecidesHowTakenListsRead := by
  unfold Obligations.CarryDecidesHowTakenListsRead
  exact ⟨readLists_carry, readLists_discard_items⟩

/-! ### Every step that loses nothing keeps whole items (R215; 70_reset_and_hazards.md R266) -/

/-- Under the invariant the reads of the consumer find a byte in every slot, and the other operations never stop. -/
theorem perform_answers (op : Op) {s : State} (h : BlockInv s) : ∃ t, perform op s = .next t := by
  cases op with
  | rx b => exact ⟨_, perform_rx b s⟩
  | translate =>
    cases hq : s.rxQ with
    | nil => exact ⟨_, perform_translate_of_rxQ_nil hq⟩
    | cons b q => exact ⟨_, (perform_translate_of_rxQ_cons hq).trans (exec_decodeByte b _)⟩
  | take => exact ⟨_, perform_take_of_readAll_ok (readAll_of_inv h)⟩
  | peek => exact ⟨_, perform_peek_of_readAll_ok (readAll_of_inv h)⟩
  | txDone => exact ⟨_, rfl⟩
  | reset => exact ⟨_, rfl⟩

/-- The whole emission of the head of `rx_q`, put behind whole items, adds the item of that byte. -/
theorem decodeStream_append_head_emission {s : State} {items : List Item}
    (hread : decodeStream (delivered s) = (items, .idle))
    (hhead : ∀ b ∈ s.rxQ.head?.toList, isMarker b = false ∧ fits b s) :
    decodeStream (delivered s ++ (s.rxQ.head?.toList.flatMap emission).take (s.cfg.cap - s.len)) =
      (items ++ s.rxQ.head?.toList.map itemOf, .idle) := by
  have hwhole : (s.rxQ.head?.toList.flatMap emission).take (s.cfg.cap - s.len) =
      s.rxQ.head?.toList.flatMap emission := by
    refine List.take_of_length_le ?_
    cases hq : s.rxQ.head? with
    | none => simp
    | some b =>
      obtain ⟨-, hfits⟩ := hhead b (by simp [hq])
      simp only [Option.toList_some, List.flatMap_singleton]
      omega
  rw [hwhole, decodeStream_append_of_idle hread, decodeStream_flatMap_emission fun b hb => (hhead b hb).1]

/-- Settles O53: what the step does to the bytes delivered is O49, and what it does to `rx_q` O48; only a `TRANSLATE`
adds bytes, and these are the whole emission of the head. -/
theorem losslessTranslateReadsAsOneItem : Obligations.LosslessTranslateReadsAsOneItem := by
  unfold Obligations.LosslessTranslateReadsAsOneItem
  intro s items h hread hlossless
  obtain ⟨t, hstep⟩ : ∃ t, step s = .next t := perform_answers (nextOp s) h.after_advance
  have hrxQ := bytesAreTranslatedInArrivalOrder.1 s t hstep
  have hdelivered := deliveredStreamGrowsInOrder s t h hstep
  refine ⟨t, hstep, invariantKeptByEveryStep s t h hstep, fun hop => by rwa [hop] at hrxQ, ?_⟩
  cases hop : nextOp s <;> rw [hop] at hdelivered <;> rw [hdelivered]
  case translate =>
    refine decodeStream_append_head_emission hread fun b hb => ?_
    obtain ⟨q, hq⟩ : ∃ q, s.rxQ = b :: q := by simpa [List.head?_eq_some_iff] using hb
    obtain ⟨hshift, hctrl, hfits⟩ := hlossless b q hop hq
    exact ⟨(isMarker_eq_false_iff b).mpr ⟨hshift, hctrl⟩, hfits⟩
  case reset => rfl
  all_goals exact hread

end Sys2Proof.Machine
end

section
/-! PROOFS. Exceptions: no step stops, an overrun records its byte and goes on, and each operation writes only the
fields its rule names (60_exceptions.md R230, R232, R242). -/

namespace Sys2Proof.Machine

/-! ### No step stops (R230) -/

/-- Settles O42: the choice of the operation keeps the invariant, and under it every operation answers. -/
theorem invariantStatesNeverStop : Obligations.InvariantStatesNeverStop := by
  unfold Obligations.InvariantStatesNeverStop
  intro s h
  exact perform_answers (nextOp s) h.after_advance

/-! ### Overruns (R232) -/

/-- The three trigger bytes with their control bytes, as the statement of O46 lists them (43_control_signals.md R191 to
R193). -/
theorem triggerOf_of_mem_triggers {b v : Byte} {k : TriggerKind}
    (h : (b, v, k) ∈ ([(0xC3#8, 0x04#8, .clickOn), (0xB2#8, 0x0A#8, .clickOff), (0x0A#8, 0x10#8, .ack)] :
      List (Byte × Byte × TriggerKind))) :
    triggerOf b = some k ∧ responseByte k = v := by
  simp only [List.mem_cons, Prod.mk.injEq, List.not_mem_nil, or_false] at h
  rcases h with ⟨rfl, rfl, rfl⟩ | ⟨rfl, rfl, rfl⟩ | ⟨rfl, rfl, rfl⟩ <;> exact ⟨rfl, rfl⟩

/-- A response that finds a byte pending is recorded under `TX_OVERRUN` (40_link_receiver.md R96). -/
theorem controlStep_faultLog_of_pending {b w : Byte} {k : TriggerKind} {s : State} (hk : triggerOf b = some k)
    (hpending : s.txHold = some w) :
    (controlStep b s).faultLog = s.faultLog ++ [⟨.txOverrun, responseByte k⟩] := by
  rw [controlStep_of_triggerOf_some hk, notify_faultLog, tx_faultLog, if_pos (by simp [hpending])]

/-- With a byte pending, a `TRANSLATE` of a trigger byte does all a `TRANSLATE` does and discards the control byte. -/
theorem perform_translate_overruns {s : State} {b w : Byte} {q : List Byte} {k : TriggerKind} (hq : s.rxQ = b :: q)
    (hk : triggerOf b = some k) (hpending : s.txHold = some w) :
    ∃ t, perform .translate s = .next t ∧ t.txOverrun = true ∧ t.txHold = some w ∧
      t.faultLog = s.faultLog ++ [⟨.txOverrun, responseByte k⟩] ∧ t.notifyLog = s.notifyLog ++ [k] ∧
      Appended (emission b) s t := by
  obtain ⟨t, hperform, happended, hcontrol, -⟩ := perform_translate_handles hq
  obtain ⟨hnotified, -, hoverrun⟩ := hcontrol.responds hk
  obtain ⟨hhold, hflag⟩ := hoverrun w hpending
  have hfaults : t.faultLog = s.faultLog ++ [⟨.txOverrun, responseByte k⟩] := by
    rw [perform_translate_of_rxQ_cons hq] at hperform
    rw [exec_decodeByte_next hperform, controlStep_faultLog_of_pending hk (by rwa [appendAll_txHold]),
      appendAll_faultLog]
  exact ⟨t, hperform, hflag, hhold, hfaults, hnotified, happended⟩

/-- Settles O46: an `RX` without room is the raising of its fault, and each trigger byte has its kind and byte. -/
theorem overrunsRecordTheDiscardedByte : Obligations.OverrunsRecordTheDiscardedByte := by
  unfold Obligations.OverrunsRecordTheDiscardedByte
  constructor
  · intro b s hfull
    refine ⟨rx b s, perform_rx b s, ?_⟩
    rw [rx_of_no_room (Nat.not_lt.mpr hfull)]
    exact ⟨raiseRx_rxOverrun b s, raiseRx_faultLog b s⟩
  · intro b v w k q s hmem hq hpending
    obtain ⟨hk, rfl⟩ := triggerOf_of_mem_triggers hmem
    exact perform_translate_overruns hq hk hpending

/-! ### What each operation writes (R242) -/

theorem exec_handlerKeeps {i : Instr} {s t : State} (h : exec i s = .next t) : HandlerKeeps s t := by
  obtain ⟨u, hu, -, -, hkeeps⟩ := exec_handles i s
  obtain rfl : u = t := by simpa [hu] using h
  exact hkeeps

/-- Settles O47: for each operation, a field it does not write is as before, and the clauses on the fields it writes
leave it out. -/
theorem operationsWriteOnlyTheirFields : Obligations.OperationsWriteOnlyTheirFields := by
  unfold Obligations.OperationsWriteOnlyTheirFields
  intro op s t hop
  rcases perform_cases hop with ⟨b, rfl, rfl⟩ | ⟨-, -, rfl⟩ | ⟨b, q, rfl, -, hrow⟩ | ⟨xs, rfl, -, rfl⟩ |
    ⟨xs, -, -, rfl⟩ | ⟨rfl, rfl⟩ | ⟨rfl, rfl⟩
  · exact ⟨rx_cfg b s, fun _ => ⟨rx_buf b s, rx_len b s⟩, fun _ hrx => absurd rfl (hrx b), fun _ => rx_txHold b s,
      fun _ => rx_txWire b s, fun _ => ⟨rx_notifyLog b s, rx_txOverrun b s, rx_ovfCnt b s⟩,
      fun _ hrx => absurd rfl (hrx b)⟩
  · exact ⟨rfl, fun _ => ⟨rfl, rfl⟩, fun _ _ => rfl, fun _ => rfl, fun _ => rfl, fun _ => ⟨rfl, rfl, rfl⟩,
      fun _ _ => rfl⟩
  · obtain ⟨hcfg, -, hrxOverrun, htxWire, -⟩ := exec_handlerKeeps hrow
    exact ⟨hcfg, by simp, by simp, by simp, fun _ => htxWire, by simp, fun _ _ => hrxOverrun⟩
  · exact ⟨rfl, by simp, fun _ _ => rfl, fun _ => rfl, fun _ => rfl, fun _ => ⟨rfl, rfl, rfl⟩,
      fun _ _ => rfl⟩
  · exact ⟨rfl, fun _ => ⟨rfl, rfl⟩, fun _ _ => rfl, fun _ => rfl, fun _ => rfl, fun _ => ⟨rfl, rfl, rfl⟩,
      fun _ _ => rfl⟩
  · exact ⟨txDone_getD_cfg s, fun _ => ⟨txDone_getD_buf s, txDone_getD_len s⟩, fun _ _ => txDone_getD_rxQ s, by simp,
      by simp, fun _ => ⟨txDone_getD_notifyLog s, txDone_getD_txOverrun s, txDone_getD_ovfCnt s⟩,
      fun _ _ => txDone_getD_rxOverrun s⟩
  · exact ⟨resetBlock_cfg s, by simp, by simp, by simp, by simp, by simp, by simp⟩

end Sys2Proof.Machine
end

section
/-! PROOFS. `RESET`: what it leaves, in every state (70_reset_and_hazards.md R260). -/

namespace Sys2Proof.Machine

theorem enabled_reset (s : State) : enabled .reset s = true := rfl

theorem perform_reset (s : State) : perform .reset s = .next (resetBlock s) := rfl

@[simp] theorem resetBlock_slot (s : State) (j : Nat) : (resetBlock s).slot j = none := rfl

/-- The example of R260: a read of all stored slots right after `RESET` finds none. -/
theorem readAll_resetBlock (s : State) : readAll (resetBlock s) = .ok [] :=
  readAll_of_empty ((empty_iff _).mpr (resetBlock_len s))

/-- Settles O37: the next state is `resetBlock s`, and each clause is the lemma on that field of it. -/
theorem resetRestoresEveryField : Obligations.ResetRestoresEveryField := by
  unfold Obligations.ResetRestoresEveryField
  intro s
  exact ⟨enabled_reset s, resetBlock s, perform_reset s, resetBlock_slot s, resetBlock_len s, resetBlock_rxQ s,
    resetBlock_txHold s, resetBlock_rxOverrun s, resetBlock_txOverrun s, resetBlock_ovfCnt s, resetBlock_txWire s,
    resetBlock_notifyLog s, resetBlock_cfg s, readAll_resetBlock s⟩

end Sys2Proof.Machine
end
